-- ==== Sys2Proof/Word.lean ====
section
/-! DEFINITION. The word types of the block and the closed sets of values its ports carry
(spec/00_scope.md R7, spec/30_encoding.md R41 to R47). -/

namespace Sys2Proof

/-- The 6-bit step word `IW` of one cycle (R41). -/
abbrev StepWord := BitVec 6

/-- A reading, `{clk_level, dt_level}`: CLK is bit 1, DT is bit 0 (R37, R42). -/
abbrev Reading := BitVec 2

/-- A decoder state number, `{dt, clk}` (R43): not the same numbering as a reading (R44). -/
abbrev StateNumber := BitVec 2

/-- An index `{current_state, reading}` of the transition table (R49). -/
abbrev CellIndex := BitVec 4

abbrev Byte := BitVec 8

/-- "one of {None, Clockwise, CounterClockwise}" (R45). -/
inductive Direction where
  | none
  | clockwise
  | counterClockwise
  deriving DecidableEq, Repr

/-- The kind of a switch event (R46). -/
inductive SwitchEvent where
  | pressed
  | released
  | longPressed
  deriving DecidableEq, Repr

/-- Which name a rotation event carries (R47). -/
inductive RotName where
  | active
  | shifted
  deriving DecidableEq, Repr

/-- Which name a switch event carries (R47). -/
inductive SwName where
  | normal
  | long
  deriving DecidableEq, Repr

/-- A logical name: an opaque identifier, which the block never compares, computes on or stores
(R6, R47; log entry 16). -/
structure NameId where
  id : Nat
  deriving DecidableEq, Repr

end Sys2Proof
end

