-- ==== Sys2Proof/Config.lean ====
section
/-! DEFINITION. The constants of one device instance (spec/00_scope.md R6, spec/30_encoding.md R52),
and the knobs a builder gives it. No step writes any of them (R17). -/

namespace Sys2Proof

/-- The configuration of one instance, R6 and R52. -/
structure Config where
  /-- `TS_WIDTH`, written W: the width of every timestamp and duration. -/
  tsWidth : Nat
  /-- What one unit of `now` is; no rule depends on it. -/
  tick : Nat
  /-- `DEBOUNCE_WINDOW`. -/
  debounceWindow : Nat
  /-- `LP_EN`: long-press classification is enabled. -/
  lpEn : Bool
  /-- `LP_THRESHOLD`, read only when `LP_EN` = 1. -/
  lpThreshold : Nat
  /-- `SHIFT_EN`: a shifted name is configured. -/
  shiftEn : Bool
  /-- `SW_PRESENT`: the device has a switch; 0 is "pure rotary". -/
  swPresent : Bool
  /-- `PRESS_LEVEL`: the raw level that indicates press. -/
  pressLevel : Bool
  nameRotActive : NameId
  nameRotShifted : NameId
  nameSwNormal : NameId
  nameSwLong : NameId
  deriving DecidableEq, Repr

/-- The configuration knobs of the source document's section 6, some of them optional (R6, R52). -/
structure Knobs where
  tsWidth : Nat
  tick : Nat
  debounceWindow : Nat
  pressLevel : Bool
  /-- `sw_pin` is given. -/
  swPin : Bool
  activeName : NameId
  /-- `name_shifted`. -/
  nameShifted : Option NameId
  normalName : NameId
  /-- `name_long_press`. -/
  nameLongPress : Option NameId
  /-- `time_threshold`. -/
  timeThreshold : Option Nat
  deriving DecidableEq, Repr

/-- The configuration that State.reset carries. The spec leaves every parameter open; these are the
conventions of spec/95_test_vectors.md and the suggested values of R6. DESIGN CHOICE, log entry 8. -/
def Config.conventional : Config :=
  { tsWidth := 32, tick := 1, debounceWindow := 50, lpEn := false, lpThreshold := 0,
    shiftEn := false, swPresent := true, pressLevel := true,
    nameRotActive := ⟨0⟩, nameRotShifted := ⟨1⟩, nameSwNormal := ⟨2⟩, nameSwLong := ⟨3⟩ }

end Sys2Proof
end

