-- ==== Sys2Proof/Syntax.lean ====
section
/-! DEFINITION. The operations of the block: one constructor per row of spec/opcode_table.json, and
the inputs of one cycle. -/

namespace Sys2Proof

/-- The rows of the opcode table. STEP rows are the operations of the slots of the step word (R41);
QDT rows are the cells of the transition table, `qdt<state><reading>` (R67 to R82); the outcome rows
are what a SW step or the name selection of a ROT step comes to (R93 to R96, R111 to R113). A SW
outcome has the operands of its SW step; a mux outcome has none (R110). -/
inductive Instr where
  | reset
  | rotNop
  | rot00
  | rot01
  | rot10
  | rot11
  | swNop
  | swL0 (now : Nat)
  | swL1 (now : Nat)
  | qdt00
  | qdt01
  | qdt02
  | qdt03
  | qdt10
  | qdt11
  | qdt12
  | qdt13
  | qdt20
  | qdt21
  | qdt22
  | qdt23
  | qdt30
  | qdt31
  | qdt32
  | qdt33
  | swDiscard (rawLevel : Bool) (now : Nat)
  | swPress (rawLevel : Bool) (now : Nat)
  | swRelease (rawLevel : Bool) (now : Nat)
  | swLong (rawLevel : Bool) (now : Nat)
  | swRefresh (rawLevel : Bool) (now : Nat)
  | muxActive
  | muxShifted
  | muxSuppress
  | muxNone
  deriving DecidableEq, Repr

/-- The three formats of the opcode table. -/
inductive Format where
  | step
  | cell
  | outcome
  deriving DecidableEq, Repr

/-- The slot of the step word an operation of format STEP fills (R41). -/
inductive Slot where
  | reset
  | rot
  | sw
  deriving DecidableEq, Repr

/-- The inputs of one `sys_clk` cycle: the step word and the `now` port (R40, R41). -/
structure InputCycle where
  iw : StepWord
  now : Nat
  deriving DecidableEq, Repr

end Sys2Proof
end

