-- ==== Sys2Proof/WellFormed.lean ====
section
/-! DEFINITION. What makes a configuration, an operation, an input cycle and a cycle's list of
operations legal. -/

namespace Sys2Proof

/-- The legal values of R52: W at least 1, both durations W bits wide. -/
def Config.legal (c : Config) : Bool :=
  decide (1 ≤ c.tsWidth) && decide (c.debounceWindow < 2 ^ c.tsWidth)
    && decide (c.lpThreshold < 2 ^ c.tsWidth)

/-- Timestamps and durations are numbers of ticks; W is a parameter of the instance, so they are Nat and
not a fixed bit vector (log entry 10, DESIGN CHOICE). A tick value fits the `now` port of an instance with `TS_WIDTH` = w. -/
def fitsWidth (w : Nat) (t : Nat) : Bool := decide (t < 2 ^ w)

/-- The format of a row (the table's "format" column). -/
def Instr.format : Instr → Format
  | .reset | .rotNop | .rot00 | .rot01 | .rot10 | .rot11 | .swNop | .swL0 _ | .swL1 _ => .step
  | .qdt00 | .qdt01 | .qdt02 | .qdt03 | .qdt10 | .qdt11 | .qdt12 | .qdt13 => .cell
  | .qdt20 | .qdt21 | .qdt22 | .qdt23 | .qdt30 | .qdt31 | .qdt32 | .qdt33 => .cell
  | .swDiscard _ _ | .swPress _ _ | .swRelease _ _ | .swLong _ _ | .swRefresh _ _ => .outcome
  | .muxActive | .muxShifted | .muxSuppress | .muxNone => .outcome

/-- The slot an operation fills (the table's "slot" column); none for a row that is no slot
operation. -/
def Instr.slot : Instr → Option Slot
  | .reset => some .reset
  | .rotNop | .rot00 | .rot01 | .rot10 | .rot11 => some .rot
  | .swNop | .swL0 _ | .swL1 _ => some .sw
  | .qdt00 | .qdt01 | .qdt02 | .qdt03 | .qdt10 | .qdt11 | .qdt12 | .qdt13 => none
  | .qdt20 | .qdt21 | .qdt22 | .qdt23 | .qdt30 | .qdt31 | .qdt32 | .qdt33 => none
  | .swDiscard _ _ | .swPress _ _ | .swRelease _ _ | .swLong _ _ | .swRefresh _ _ => none
  | .muxActive | .muxShifted | .muxSuppress | .muxNone => none

/-- The operand `now` of an operation, 0 where it has none. -/
def Instr.now : Instr → Nat
  | .swL0 t | .swL1 t => t
  | .swDiscard _ t | .swPress _ t | .swRelease _ t | .swLong _ t | .swRefresh _ t => t
  | .reset | .rotNop | .rot00 | .rot01 | .rot10 | .rot11 | .swNop => 0
  | .qdt00 | .qdt01 | .qdt02 | .qdt03 | .qdt10 | .qdt11 | .qdt12 | .qdt13 => 0
  | .qdt20 | .qdt21 | .qdt22 | .qdt23 | .qdt30 | .qdt31 | .qdt32 | .qdt33 => 0
  | .muxActive | .muxShifted | .muxSuppress | .muxNone => 0

/-- An operation is well formed for W = w when its `now` is a W-bit value (R6, R41). -/
def Instr.wf (w : Nat) (i : Instr) : Bool := fitsWidth w i.now

/-- The inputs of a cycle are well formed when `now` is a W-bit value (R40). -/
def InputCycle.wf (w : Nat) (c : InputCycle) : Bool := fitsWidth w c.now

/-- The operations of one cycle: RESET alone, or one ROT operation and then one SW operation
(R41, R34), each well formed. -/
def cycleWf (w : Nat) (ops : List Instr) : Bool :=
  match ops with
  | [i] => i.slot == some .reset
  | [r, t] => r.slot == some .rot && t.slot == some .sw && t.wf w
  | _ => false

end Sys2Proof
end

