-- ==== Sys2Proof/Decode.lean ====
section
/-! DEFINITION. The decoder of step words (R41, R42, R50, R51), of transition table indices (R49) and
of bytes, and after it the encoder, from the same tables. -/

namespace Sys2Proof

/-- The ROT slot `IW[4:2]` = `rot_stb`, `clk_level`, `dt_level` (R41, R42). -/
def decodeRotSlot (iw : StepWord) : Instr :=
  if iw.getLsbD 4 then
    match iw.getLsbD 3, iw.getLsbD 2 with
    | false, false => .rot00
    | false, true => .rot01
    | true, false => .rot10
    | true, true => .rot11
  else .rotNop

/-- The SW slot `IW[1:0]` = `sw_stb`, `raw_level`, with the operand `now` (R41, R90). -/
def decodeSwSlot (iw : StepWord) (now : Nat) : Instr :=
  if iw.getLsbD 1 then
    if iw.getLsbD 0 then .swL1 now else .swL0 now
  else .swNop

/-- The operations of one cycle in the order they are performed: RESET alone if `IW[5]` = 1,
otherwise the ROT operation and then the SW operation (R41, R141, R34). Every word has a meaning
(R50). -/
def decodeWord (iw : StepWord) (now : Nat) : List Instr :=
  if iw.getLsbD 5 then [.reset] else [decodeRotSlot iw, decodeSwSlot iw now]

/-- The cell of the transition table at an index `{current_state, reading}` (R49, R67 to R82). -/
def decodeCell (idx : CellIndex) : Instr :=
  match idx.toNat with
  | 0 => .qdt00
  | 1 => .qdt01
  | 2 => .qdt02
  | 3 => .qdt03
  | 4 => .qdt10
  | 5 => .qdt11
  | 6 => .qdt12
  | 7 => .qdt13
  | 8 => .qdt20
  | 9 => .qdt21
  | 10 => .qdt22
  | 11 => .qdt23
  | 12 => .qdt30
  | 13 => .qdt31
  | 14 => .qdt32
  | _ => .qdt33

/-- Why a byte string is no cycle. -/
inductive DecodeError where
  /-- There is no byte at all. -/
  | noStepWord
  /-- The first byte is 64 or more: a step word has 6 bits (R41). -/
  | widerThanStepWord
  deriving DecidableEq, Repr

/-- A number from its bytes, the least significant first. -/
def natOfBytes : List Byte → Nat
  | [] => 0
  | b :: bs => b.toNat + 256 * natOfBytes bs

/-- The n least significant bytes of a number, the least significant first. -/
def bytesOfNat : Nat → Nat → List Byte
  | 0, _ => []
  | n + 1, w => BitVec.ofNat 8 w :: bytesOfNat n (w / 256)

/-- One cycle written as bytes: the step word in the first byte, then `now`, least significant byte
first. The layout is the model's (DESIGN CHOICE, log entry 5): the hardware takes both on ports. -/
def decodeBytes (bytes : List Byte) : Except DecodeError (List Instr) :=
  match bytes with
  | [] => .error .noStepWord
  | b :: rest =>
    if b.toNat < 64 then .ok (decodeWord (BitVec.ofNat 6 b.toNat) (natOfBytes rest))
    else .error .widerThanStepWord

/-- The one operation that stands for a cycle where only one can be named: an operation with a
strobe, the ROT slot first (DESIGN CHOICE, log entry 4). -/
def principalOp (ops : List Instr) : Option Instr :=
  match ops with
  | [.rotNop, .swNop] => some .rotNop
  | .rotNop :: t :: _ => some t
  | i :: _ => some i
  | [] => none

/-- What the decoder reads from a word of the opcode table: a 4-bit word is a table index (R49), any
other a step word with its bytes laid out as decodeBytes takes them. Log entry 4. -/
def decodeTableWord (nbits w : Nat) : Option Instr :=
  if nbits ≤ 4 then
    if w < 16 then some (decodeCell (BitVec.ofNat 4 w)) else none
  else
    match decodeBytes (bytesOfNat ((nbits + 7) / 8) w) with
    | .ok ops => principalOp ops
    | .error _ => none

/-- `match` of a row over `IW[5:0]` (the table of R41; for an outcome row that of its hosting step).
For a cell it is the 4-bit index, zero-extended. -/
def rowMatch : Instr → StepWord
  | .reset => 0x20
  | .rotNop => 0x00
  | .rot00 => 0x10
  | .rot01 => 0x14
  | .rot10 => 0x18
  | .rot11 => 0x1C
  | .swNop => 0x00
  | .swL0 _ => 0x02
  | .swL1 _ => 0x03
  | .qdt00 => 0x0
  | .qdt01 => 0x1
  | .qdt02 => 0x2
  | .qdt03 => 0x3
  | .qdt10 => 0x4
  | .qdt11 => 0x5
  | .qdt12 => 0x6
  | .qdt13 => 0x7
  | .qdt20 => 0x8
  | .qdt21 => 0x9
  | .qdt22 => 0xA
  | .qdt23 => 0xB
  | .qdt30 => 0xC
  | .qdt31 => 0xD
  | .qdt32 => 0xE
  | .qdt33 => 0xF
  | .swDiscard _ _ | .swPress _ _ | .swRelease _ _ | .swLong _ _ | .swRefresh _ _ => 0x02
  | .muxActive | .muxShifted | .muxSuppress | .muxNone => 0x10

/-- `mask` of a row, as rowMatch. -/
def rowMask : Instr → StepWord
  | .reset => 0x20
  | .rotNop => 0x30
  | .rot00 | .rot01 | .rot10 | .rot11 => 0x3C
  | .swNop => 0x22
  | .swL0 _ | .swL1 _ => 0x23
  | .qdt00 | .qdt01 | .qdt02 | .qdt03 | .qdt10 | .qdt11 | .qdt12 | .qdt13 => 0xF
  | .qdt20 | .qdt21 | .qdt22 | .qdt23 | .qdt30 | .qdt31 | .qdt32 | .qdt33 => 0xF
  | .swDiscard _ _ | .swPress _ _ | .swRelease _ _ | .swLong _ _ | .swRefresh _ _ => 0x22
  | .muxActive | .muxShifted | .muxSuppress | .muxNone => 0x30

/-- A step word from its six bits, bit 5 first (the first table of R41). -/
def stepWord (rst rotStb clkLevel dtLevel swStb rawLevel : Bool) : StepWord :=
  BitVec.ofBool rst ++ BitVec.ofBool rotStb ++ BitVec.ofBool clkLevel ++ BitVec.ofBool dtLevel
    ++ BitVec.ofBool swStb ++ BitVec.ofBool rawLevel

/-- A table index from `current_state` and the reading (R49). -/
def cellIndex (s : StateNumber) (r : Reading) : CellIndex := s ++ r

/-- The word of one row in its canonical spelling, every bit the row leaves free written 0 (R51, R53).
A SW outcome has the word of its SW step, a mux outcome that of the first of its hosting ROT steps, a
cell its index zero-extended. -/
def encode : Instr → StepWord
  | .reset => stepWord true false false false false false
  | .rotNop => stepWord false false false false false false
  | .rot00 => stepWord false true false false false false
  | .rot01 => stepWord false true false true false false
  | .rot10 => stepWord false true true false false false
  | .rot11 => stepWord false true true true false false
  | .swNop => stepWord false false false false false false
  | .swL0 _ => stepWord false false false false true false
  | .swL1 _ => stepWord false false false false true true
  | .qdt00 => (cellIndex 0 0).setWidth 6
  | .qdt01 => (cellIndex 0 1).setWidth 6
  | .qdt02 => (cellIndex 0 2).setWidth 6
  | .qdt03 => (cellIndex 0 3).setWidth 6
  | .qdt10 => (cellIndex 1 0).setWidth 6
  | .qdt11 => (cellIndex 1 1).setWidth 6
  | .qdt12 => (cellIndex 1 2).setWidth 6
  | .qdt13 => (cellIndex 1 3).setWidth 6
  | .qdt20 => (cellIndex 2 0).setWidth 6
  | .qdt21 => (cellIndex 2 1).setWidth 6
  | .qdt22 => (cellIndex 2 2).setWidth 6
  | .qdt23 => (cellIndex 2 3).setWidth 6
  | .qdt30 => (cellIndex 3 0).setWidth 6
  | .qdt31 => (cellIndex 3 1).setWidth 6
  | .qdt32 => (cellIndex 3 2).setWidth 6
  | .qdt33 => (cellIndex 3 3).setWidth 6
  | .swDiscard l _ => stepWord false false false false true l
  | .swPress l _ => stepWord false false false false true l
  | .swRelease l _ => stepWord false false false false true l
  | .swLong l _ => stepWord false false false false true l
  | .swRefresh l _ => stepWord false false false false true l
  | .muxActive => stepWord false true false false false false
  | .muxShifted => stepWord false true false false false false
  | .muxSuppress => stepWord false true false false false false
  | .muxNone => stepWord false true false false false false

/-- The 4-bit index of a cell (R49). -/
def encodeCell (i : Instr) : CellIndex := (encode i).setWidth 4

/-- The step word of one cycle: the words of its operations together (R41, R53). -/
def encodeCycle (ops : List Instr) : StepWord := ops.foldl (fun w i => w ||| encode i) 0

/-- The `now` port of one cycle: the operand of its SW operation, 0 where there is none. -/
def cycleNow (ops : List Instr) : Nat := ops.foldl (fun t i => t + i.now) 0

/-- The canonical spelling of a step word: a bit that `rst` = 1 or a strobe of 0 makes ignored is written
0 (R51, R53). It does not depend on the instance: the SW slot of a device without a switch keeps its bits
(DESIGN CHOICE, log entry 21). -/
def canonicalWord (iw : StepWord) : StepWord :=
  if iw.getLsbD 5 then 0x20
  else (if iw.getLsbD 4 then iw &&& 0x1C else 0) ||| (if iw.getLsbD 1 then iw &&& 0x03 else 0)

end Sys2Proof
end

