-- ==== Sys2Proof/Machine/State.lean ====
section
/-! DEFINITION. The state of the machine (spec/10_state.md R10 to R28), the reasons a step can stop,
and the state after reset. -/

namespace Sys2Proof.Machine

/-- One call of the rotation callback: the triple (`rot_ev_valid` = 1, `rot_ev_name`, `rot_ev_dir`)
(R48). -/
structure RotEvent where
  name : RotName
  dir : Direction
  deriving DecidableEq, Repr

/-- One call of the switch callback: the triple (`sw_ev_valid` = 1, `sw_ev_name`, `sw_ev_kind`)
(R48). -/
structure SwEvent where
  name : SwName
  kind : SwitchEvent
  deriving DecidableEq, Repr

/-- What the output ports of R40 showed in the most recent cycle. An event of none is a port whose
valid bit is 0 (R48). The ports hold nothing between steps (R19): this is the model's record of the
last cycle, which no later step reads (DESIGN CHOICE, log entry 7). -/
structure Ports where
  /-- `dir`: the Direction the decoder returned in this cycle's ROT step. -/
  dir : Direction
  rotEvent : Option RotEvent
  swEvent : Option SwEvent
  /-- The observation output `current_state`: the registered value of the cycle. -/
  obsState : StateNumber
  /-- The observation output `is_pressed`: the registered value of the cycle. -/
  obsPressed : Bool
  deriving DecidableEq, Repr

/-- The state of one instance. The five fields from currentState to lastValid are the spec's (R10);
cfg, inputs and out are the model's own (log entries 6, 7, 8). -/
structure State where
  /-- The constants of the instance; no step writes them (R17). -/
  cfg : Config
  /-- `current_state`: the state number of the last accepted reading (R11). -/
  currentState : StateNumber
  /-- `is_pressed` (R12). -/
  isPressed : Bool
  /-- `press_started_at` (R13). -/
  pressStartedAt : Nat
  /-- `last_accepted_at` (R14). -/
  lastAcceptedAt : Nat
  /-- `last_valid` (R15). -/
  lastValid : Bool
  /-- The inputs of the coming cycles, the next first. -/
  inputs : List InputCycle
  /-- The outputs of the most recent cycle. -/
  out : Ports
  deriving DecidableEq, Repr

/-- There is no fault: "The block raises no synchronous exception, has no cause codes, no fault
output, no error flag and no trap" (R125; log entry 19). Safe: no step can answer one. -/
inductive Fault where
  deriving DecidableEq, Repr

/-- Why a step is refused. -/
inductive Refusal where
  /-- Raised by exec for an instruction without a meaning. No arm does. Safe. -/
  | notModelled (mnemonic : String)
  /-- Raised by step for a configuration outside the legal values of R52, the only refusal R125
  allows. Safe. -/
  | illegalConfiguration
  deriving DecidableEq, Repr

/-- The output ports with no event, all zero (R48). -/
def Ports.zero : Ports :=
  { dir := .none, rotEvent := none, swEvent := none, obsState := 0, obsPressed := false }

/-- The state after reset: R28, "a model starts from the single state current_state = 0, is_pressed =
0, press_started_at = 0, last_accepted_at = 0, last_valid = 0". The three fields of the model's own:
log entries 6, 7 and 8. -/
def State.reset : State :=
  { cfg := Config.conventional
    currentState := 0
    isPressed := false
    pressStartedAt := 0
    lastAcceptedAt := 0
    lastValid := false
    inputs := []
    out := Ports.zero }

end Sys2Proof.Machine
end

