-- ==== Sys2Proof/Machine/Ops.lean ====
section
/-! DEFINITION. The named operations over the state fields and the ports. There is no memory (R30) and
no register file (R19), so the operations are one per field or port. There is no operation that takes
an exception or returns from one: "There is no trap entry and no trap return" (R130; log entry 19). -/

namespace Sys2Proof.Machine

def State.setCurrentState (s : State) (v : StateNumber) : State := { s with currentState := v }

def State.setDir (s : State) (d : Direction) : State := { s with out := { s.out with dir := d } }

def State.setRotEvent (s : State) (e : Option RotEvent) : State :=
  { s with out := { s.out with rotEvent := e } }

def State.setSwEvent (s : State) (e : Option SwEvent) : State :=
  { s with out := { s.out with swEvent := e } }

/-- A SW step that passed the window test records its `now` (R14, R15). -/
def State.acceptEdge (s : State) (now : Nat) : State :=
  { s with lastAcceptedAt := now, lastValid := true }

/-- The switch becomes pressed at `now` (R94). -/
def State.beginPress (s : State) (now : Nat) : State :=
  { s with isPressed := true, pressStartedAt := now }

/-- The switch becomes released; `press_started_at` is cleared to 0 (R95, R13). -/
def State.endPress (s : State) : State := { s with isPressed := false, pressStartedAt := 0 }

/-- `AtomicRead(S.is_pressed)` (R32): the registered bit. A device without a switch reads as not
pressed (R119; log entry 12, DEDUCED). -/
def State.atomicReadPressed (s : State) : Bool := s.cfg.swPresent && s.isPressed

/-- RESET's writes to the five fields (R140). -/
def State.clearFields (s : State) : State :=
  { s with currentState := 0, isPressed := false, pressStartedAt := 0, lastAcceptedAt := 0,
           lastValid := false }

/-- The inputs of a cycle in which nothing is requested: `IDLE`, step word 0x00 (R53). -/
def InputCycle.idle : InputCycle := { iw := 0x00, now := 0 }

/-- The inputs presented in the coming cycle. With none left the block receives no strobe and keeps
its state (R22, R135; log entry 6). -/
def State.nextInput (s : State) : InputCycle :=
  match s.inputs with
  | [] => InputCycle.idle
  | c :: _ => c

/-- A cycle begins: its inputs are taken, the ports show no event, and the observation outputs show
the registered values (R40, R48). -/
def State.startCycle (s : State) : State :=
  { s with
    inputs := s.inputs.tail
    out := { dir := .none, rotEvent := none, swEvent := none, obsState := s.currentState,
             obsPressed := s.atomicReadPressed } }

end Sys2Proof.Machine
end

