-- ==== Sys2Proof/Machine/Cells.lean ====
section
/-! DEFINITION. The sixteen cells of the transition table as operations (R49, R67 to R82). A cell writes
its next state and shows its Direction when the decoder is in the cell's state; a cell that is not looked
up does nothing (DESIGN CHOICE, log entry 2). -/

namespace Sys2Proof.Machine

/-- The transition table as the spec prints it, sixteen entries `{next_state, dir}` from index 0 to
index 15 (R49). It is a constant, not state (R16). -/
def transitionRom : List (BitVec 4) :=
  [0x0, 0x8, 0x4, 0x0, 0x2, 0x4, 0x4, 0xC, 0x1, 0x8, 0x8, 0xC, 0xC, 0x8, 0x4, 0xC]

/-- The cell of state cs with next state nxt and Direction d. -/
def applyCell (cs nxt : StateNumber) (d : Direction) (s : State) : State :=
  if s.currentState = cs then (s.setCurrentState nxt).setDir d else s

/-- R67: same. -/
def execQdt00 (s : State) : Host.Outcome State Fault Refusal := .next (applyCell 0 0 .none s)

/-- R68: adjacent, DT rose. -/
def execQdt01 (s : State) : Host.Outcome State Fault Refusal := .next (applyCell 0 2 .none s)

/-- R69: adjacent, CLK rose. -/
def execQdt02 (s : State) : Host.Outcome State Fault Refusal := .next (applyCell 0 1 .none s)

/-- R70: diagonal, rejected. -/
def execQdt03 (s : State) : Host.Outcome State Fault Refusal := .next (applyCell 0 0 .none s)

/-- R71: adjacent, return to rest from state 1. -/
def execQdt10 (s : State) : Host.Outcome State Fault Refusal :=
  .next (applyCell 1 0 .counterClockwise s)

/-- R72: diagonal, rejected. -/
def execQdt11 (s : State) : Host.Outcome State Fault Refusal := .next (applyCell 1 1 .none s)

/-- R73: same. -/
def execQdt12 (s : State) : Host.Outcome State Fault Refusal := .next (applyCell 1 1 .none s)

/-- R74: adjacent, DT rose. -/
def execQdt13 (s : State) : Host.Outcome State Fault Refusal := .next (applyCell 1 3 .none s)

/-- R75: adjacent, return to rest from state 2. -/
def execQdt20 (s : State) : Host.Outcome State Fault Refusal := .next (applyCell 2 0 .clockwise s)

/-- R76: same. -/
def execQdt21 (s : State) : Host.Outcome State Fault Refusal := .next (applyCell 2 2 .none s)

/-- R77: diagonal, rejected. -/
def execQdt22 (s : State) : Host.Outcome State Fault Refusal := .next (applyCell 2 2 .none s)

/-- R78: adjacent, CLK rose. -/
def execQdt23 (s : State) : Host.Outcome State Fault Refusal := .next (applyCell 2 3 .none s)

/-- R79: diagonal, rejected. -/
def execQdt30 (s : State) : Host.Outcome State Fault Refusal := .next (applyCell 3 3 .none s)

/-- R80: adjacent, CLK fell. -/
def execQdt31 (s : State) : Host.Outcome State Fault Refusal := .next (applyCell 3 2 .none s)

/-- R81: adjacent, DT fell. -/
def execQdt32 (s : State) : Host.Outcome State Fault Refusal := .next (applyCell 3 1 .none s)

/-- R82: same. -/
def execQdt33 (s : State) : Host.Outcome State Fault Refusal := .next (applyCell 3 3 .none s)

end Sys2Proof.Machine
end

