-- ==== Sys2Proof/Machine/Reset.lean ====
section
/-! DEFINITION. The RESET step (R140). -/

namespace Sys2Proof.Machine

/-- `RESET` (R140): the five fields to 0 and no event on any port. -/
def execReset (s : State) : Host.Outcome State Fault Refusal :=
  .next (((s.clearFields.setDir .none).setRotEvent none).setSwEvent none)

end Sys2Proof.Machine
end

