-- ==== Sys2Proof/Machine/Operands.lean ====
section
/-! DEFINITION. Operand assembly: the reading and the state number it denotes (R42 to R44), the width of
timestamps and their modular difference (R7, R92). -/

namespace Sys2Proof.Machine

/-- `reading = clk<<1 | dt` (R42). -/
def readingOf (clk dt : Bool) : Reading := BitVec.ofBool clk ++ BitVec.ofBool dt

/-- `st(reading) = {reading[0], reading[1]}`, the state number a reading denotes (R44). -/
def stOf (r : Reading) : StateNumber := BitVec.ofBool (r.getLsbD 0) ++ BitVec.ofBool (r.getLsbD 1)

/-- The value a W-bit port or register holds of a number: its low W bits. -/
def truncW (w : Nat) (t : Nat) : Nat := t % 2 ^ w

/-- `a -w b`: subtraction modulo 2^W (R7). -/
def subW (w : Nat) (a b : Nat) : Nat := (BitVec.ofNat w a - BitVec.ofNat w b).toNat

end Sys2Proof.Machine
end

