-- ==== Sys2Proof/Machine/Flags.lean ====
section
/-! DEFINITION. The conditions the steps test: the class of a reading and its Direction (R62, R65), the
press indication, the elapsed and held times and the two comparisons (R91 to R95). The one flag of the
block, `is_pressed` (R12), is a field of State. -/

namespace Sys2Proof.Machine

/-- The class of a reading that denotes t, in state s (R62). -/
inductive ReadingClass where
  | same
  | adjacent
  | diagonal
  deriving DecidableEq, Repr

/-- R62 by `s xor t`: 0 is the same pair, one differing line is a single Gray step, two differing
lines are a diagonal. -/
def classify (s t : StateNumber) : ReadingClass :=
  if s ^^^ t = 0 then .same
  else if s ^^^ t = 1 ∨ s ^^^ t = 2 then .adjacent
  else .diagonal

/-- The Direction of an accepted step from s to t: only a return to rest has one, named by the state
it returns from (R65, D16). -/
def directionOf (s t : StateNumber) : Direction :=
  if t = 0 ∧ s = 2 then .clockwise
  else if t = 0 ∧ s = 1 then .counterClockwise
  else .none

/-- `press`: the raw level indicates press (R91). -/
def State.indicatesPress (s : State) (rawLevel : Bool) : Bool := rawLevel == s.cfg.pressLevel

/-- `elapsed` = `now -w S.last_accepted_at` (R92). -/
def State.elapsed (s : State) (now : Nat) : Nat := subW s.cfg.tsWidth now s.lastAcceptedAt

/-- `held` = `now -w S.press_started_at` (R95). -/
def State.held (s : State) (now : Nat) : Nat := subW s.cfg.tsWidth now s.pressStartedAt

/-- Step 1: the edge is inside the debounce window (R93). -/
def State.discards (s : State) (now : Nat) : Bool :=
  s.lastValid && decide (s.elapsed now < s.cfg.debounceWindow)

/-- A release at `now` is a long press (R95, R101). -/
def State.isLongPress (s : State) (now : Nat) : Bool :=
  s.cfg.lpEn && decide (s.cfg.lpThreshold ≤ s.held now)

end Sys2Proof.Machine
end

