-- ==== Sys2Proof/Machine/Mux.lean ====
section
/-! DEFINITION. The shifted-mode mux: the name selection of a ROT step (R118) and its four outcomes as
operations (R111 to R113). Its inputs are the decoder's `dir` of this step, `is_pressed` and `SHIFT_EN`;
its output is the rotation event port (R110). An outcome whose condition does not hold does nothing
(DESIGN CHOICE, log entry 3). -/

namespace Sys2Proof.Machine

/-- The name selection of R118, on the `dir` the decoder has just given. -/
def muxStep (s : State) : State :=
  if s.out.dir = .none then s.setRotEvent none
  else if s.atomicReadPressed = false then
    s.setRotEvent (some { name := .active, dir := s.out.dir })
  else if s.cfg.shiftEn then
    s.setRotEvent (some { name := .shifted, dir := s.out.dir })
  else s.setRotEvent none

/-- `MUX.ACTIVE` (R111): `dir` is not None and the switch is not pressed. -/
def execMuxActive (s : State) : Host.Outcome State Fault Refusal :=
  .next (if s.out.dir ≠ .none ∧ s.atomicReadPressed = false then
    s.setRotEvent (some { name := .active, dir := s.out.dir }) else s)

/-- `MUX.SHIFTED` (R111): `dir` is not None, the switch is pressed and `SHIFT_EN` = 1. -/
def execMuxShifted (s : State) : Host.Outcome State Fault Refusal :=
  .next (if s.out.dir ≠ .none ∧ s.atomicReadPressed = true ∧ s.cfg.shiftEn = true then
    s.setRotEvent (some { name := .shifted, dir := s.out.dir }) else s)

/-- `MUX.SUPPRESS` (R112): `dir` is not None, the switch is pressed and `SHIFT_EN` = 0. -/
def execMuxSuppress (s : State) : Host.Outcome State Fault Refusal :=
  .next (if s.out.dir ≠ .none ∧ s.atomicReadPressed = true ∧ s.cfg.shiftEn = false then
    s.setRotEvent none else s)

/-- `MUX.NONE` (R113): `dir` is None; `is_pressed` is not consulted. -/
def execMuxNone (s : State) : Host.Outcome State Fault Refusal :=
  .next (if s.out.dir = .none then s.setRotEvent none else s)

end Sys2Proof.Machine
end

