-- ==== Sys2Proof/Machine/Rotation.lean ====
section
/-! DEFINITION. The ROT step: the decoder (R66) and then, in the same step, the name selection (R118). -/

namespace Sys2Proof.Machine

/-- `ROT(clk_level, dt_level)`, the pseudocode of R66. -/
def decoderStep (clk dt : Bool) (s : State) : State :=
  let t := stOf (readingOf clk dt)
  match classify s.currentState t with
  | .adjacent => (s.setCurrentState t).setDir (directionOf s.currentState t)
  | .same => s.setDir .none
  | .diagonal => s.setDir .none

/-- `ROT_COMBINED(clk_level, dt_level)`, the pseudocode of R118. -/
def rotStep (clk dt : Bool) (s : State) : State := muxStep (decoderStep clk dt s)

/-- `ROT.NOP` (R83): the state is kept, `dir` is None and there is no rotation event. -/
def execRotNop (s : State) : Host.Outcome State Fault Refusal :=
  .next ((s.setDir .none).setRotEvent none)

/-- `ROT.00` (R66, R118). -/
def execRot00 (s : State) : Host.Outcome State Fault Refusal := .next (rotStep false false s)

/-- `ROT.01` (R66, R118). -/
def execRot01 (s : State) : Host.Outcome State Fault Refusal := .next (rotStep false true s)

/-- `ROT.10` (R66, R118). -/
def execRot10 (s : State) : Host.Outcome State Fault Refusal := .next (rotStep true false s)

/-- `ROT.11` (R66, R118). -/
def execRot11 (s : State) : Host.Outcome State Fault Refusal := .next (rotStep true true s)

end Sys2Proof.Machine
end

