-- ==== Sys2Proof/Machine/Switch.lean ====
section
/-! DEFINITION. The SW step (R98) and its five outcomes as operations (R93 to R96). `now` is taken from
its W-bit port. An outcome whose condition does not hold does nothing (DESIGN CHOICE, log entry 3). -/

namespace Sys2Proof.Machine

/-- R93: nothing is written, no event. -/
def discardEdge (s : State) : State := s.setSwEvent none

/-- R94: the accepted press. -/
def pressEdge (now : Nat) (s : State) : State :=
  ((s.acceptEdge now).beginPress now).setSwEvent (some { name := .normal, kind := .pressed })

/-- R95: the accepted release, with the event it reports. -/
def releaseEdge (now : Nat) (e : SwEvent) (s : State) : State :=
  ((s.acceptEdge now).endPress).setSwEvent (some e)

/-- R96: a duplicate outside the window. -/
def refreshEdge (now : Nat) (s : State) : State := (s.acceptEdge now).setSwEvent none

/-- `SW(raw_level, now)`, the pseudocode of R98; with `SW_PRESENT` = 0 the SW slot is ignored
(R119). -/
def switchStep (rawLevel : Bool) (nowPort : Nat) (s : State) : State :=
  let now := truncW s.cfg.tsWidth nowPort
  if s.cfg.swPresent = false then s.setSwEvent none
  else if s.discards now then discardEdge s
  else if s.indicatesPress rawLevel = true ∧ s.isPressed = false then pressEdge now s
  else if s.indicatesPress rawLevel = false ∧ s.isPressed = true then
    if s.isLongPress now then releaseEdge now { name := .long, kind := .longPressed } s
    else releaseEdge now { name := .normal, kind := .released } s
  else refreshEdge now s

/-- `SW.NOP` (R99): the four fields are kept, no event. -/
def execSwNop (s : State) : Host.Outcome State Fault Refusal := .next (s.setSwEvent none)

/-- `SW.L0` (R98). -/
def execSwL0 (now : Nat) (s : State) : Host.Outcome State Fault Refusal :=
  .next (switchStep false now s)

/-- `SW.L1` (R98). -/
def execSwL1 (now : Nat) (s : State) : Host.Outcome State Fault Refusal :=
  .next (switchStep true now s)

/-- The condition of `SW.DISCARD` (R93). -/
def discardSelected (now : Nat) (s : State) : Bool := s.cfg.swPresent && s.discards now

/-- The condition of `SW.PRESS` (R94). -/
def pressSelected (rawLevel : Bool) (now : Nat) (s : State) : Bool :=
  s.cfg.swPresent && !s.discards now && s.indicatesPress rawLevel && !s.isPressed

/-- The condition `SW.RELEASE` and `SW.LONG` share (R95). -/
def releaseSelected (rawLevel : Bool) (now : Nat) (s : State) : Bool :=
  s.cfg.swPresent && !s.discards now && !s.indicatesPress rawLevel && s.isPressed

/-- The condition of `SW.REFRESH` (R96). -/
def refreshSelected (rawLevel : Bool) (now : Nat) (s : State) : Bool :=
  s.cfg.swPresent && !s.discards now && (s.indicatesPress rawLevel == s.isPressed)

/-- `SW.DISCARD` (R93); the raw level is not looked at. -/
def execSwDiscard (_rawLevel : Bool) (nowPort : Nat) (s : State) : Host.Outcome State Fault Refusal :=
  let now := truncW s.cfg.tsWidth nowPort
  .next (if discardSelected now s then discardEdge s else s)

/-- `SW.PRESS` (R94). -/
def execSwPress (rawLevel : Bool) (nowPort : Nat) (s : State) : Host.Outcome State Fault Refusal :=
  let now := truncW s.cfg.tsWidth nowPort
  .next (if pressSelected rawLevel now s then pressEdge now s else s)

/-- `SW.RELEASE` (R95). -/
def execSwRelease (rawLevel : Bool) (nowPort : Nat) (s : State) : Host.Outcome State Fault Refusal :=
  let now := truncW s.cfg.tsWidth nowPort
  .next (if releaseSelected rawLevel now s && !s.isLongPress now then
    releaseEdge now { name := .normal, kind := .released } s else s)

/-- `SW.LONG` (R95). -/
def execSwLong (rawLevel : Bool) (nowPort : Nat) (s : State) : Host.Outcome State Fault Refusal :=
  let now := truncW s.cfg.tsWidth nowPort
  .next (if releaseSelected rawLevel now s && s.isLongPress now then
    releaseEdge now { name := .long, kind := .longPressed } s else s)

/-- `SW.REFRESH` (R96). -/
def execSwRefresh (rawLevel : Bool) (nowPort : Nat) (s : State) : Host.Outcome State Fault Refusal :=
  let now := truncW s.cfg.tsWidth nowPort
  .next (if refreshSelected rawLevel now s then refreshEdge now s else s)

end Sys2Proof.Machine
end

