-- ==== Sys2Proof/Machine/Dispatch.lean ====
section
/-! DEFINITION. One arm per operation, each a direct call of its meaning. -/

namespace Sys2Proof.Machine

def exec (i : Instr) (s : State) : Host.Outcome State Fault Refusal :=
  match i with
  | .reset => Sys2Proof.Machine.execReset s
  | .rotNop => Sys2Proof.Machine.execRotNop s
  | .rot00 => Sys2Proof.Machine.execRot00 s
  | .rot01 => Sys2Proof.Machine.execRot01 s
  | .rot10 => Sys2Proof.Machine.execRot10 s
  | .rot11 => Sys2Proof.Machine.execRot11 s
  | .swNop => Sys2Proof.Machine.execSwNop s
  | .swL0 now => Sys2Proof.Machine.execSwL0 now s
  | .swL1 now => Sys2Proof.Machine.execSwL1 now s
  | .qdt00 => Sys2Proof.Machine.execQdt00 s
  | .qdt01 => Sys2Proof.Machine.execQdt01 s
  | .qdt02 => Sys2Proof.Machine.execQdt02 s
  | .qdt03 => Sys2Proof.Machine.execQdt03 s
  | .qdt10 => Sys2Proof.Machine.execQdt10 s
  | .qdt11 => Sys2Proof.Machine.execQdt11 s
  | .qdt12 => Sys2Proof.Machine.execQdt12 s
  | .qdt13 => Sys2Proof.Machine.execQdt13 s
  | .qdt20 => Sys2Proof.Machine.execQdt20 s
  | .qdt21 => Sys2Proof.Machine.execQdt21 s
  | .qdt22 => Sys2Proof.Machine.execQdt22 s
  | .qdt23 => Sys2Proof.Machine.execQdt23 s
  | .qdt30 => Sys2Proof.Machine.execQdt30 s
  | .qdt31 => Sys2Proof.Machine.execQdt31 s
  | .qdt32 => Sys2Proof.Machine.execQdt32 s
  | .qdt33 => Sys2Proof.Machine.execQdt33 s
  | .swDiscard rawLevel now => Sys2Proof.Machine.execSwDiscard rawLevel now s
  | .swPress rawLevel now => Sys2Proof.Machine.execSwPress rawLevel now s
  | .swRelease rawLevel now => Sys2Proof.Machine.execSwRelease rawLevel now s
  | .swLong rawLevel now => Sys2Proof.Machine.execSwLong rawLevel now s
  | .swRefresh rawLevel now => Sys2Proof.Machine.execSwRefresh rawLevel now s
  | .muxActive => Sys2Proof.Machine.execMuxActive s
  | .muxShifted => Sys2Proof.Machine.execMuxShifted s
  | .muxSuppress => Sys2Proof.Machine.execMuxSuppress s
  | .muxNone => Sys2Proof.Machine.execMuxNone s

end Sys2Proof.Machine
end

