-- ==== Sys2Proof/Machine/Step.lean ====
section
/-! DEFINITION. One step is one `sys_clk` cycle (R5, R155). -/

namespace Sys2Proof.Machine

/-- The operations of a cycle one after another, stopping at the first that gives no next state
(R34: the cycle behaves as the ROT step followed by the SW step). -/
def runOps : List Instr → State → Host.Outcome State Fault Refusal
  | [], s => .next s
  | i :: rest, s =>
    match exec i s with
    | .next t => runOps rest t
    | .fault f => .fault f
    | .refused r => .refused r

/-- One cycle: the inputs presented are decoded and their operations performed. A configuration
outside R52 is refused (R125; log entry 9). -/
def step (s : State) : Host.Outcome State Fault Refusal :=
  if s.cfg.legal then runOps (decodeWord s.nextInput.iw s.nextInput.now) s.startCycle
  else .refused .illegalConfiguration

/-- s with a word of the opcode table presented as the inputs of the next cycle: the step word, and
`now` from the bits above its first byte, as decodeBytes reads them. A 4-bit word is an index
`{current_state, reading}`: the decoder is put in that state and the ROT step of that reading is
presented, so that the next cycle looks up that cell (log entry 4). -/
def State.withFetchWord (s : State) (nbits w : Nat) : State :=
  if nbits ≤ 4 then
    let idx := BitVec.ofNat 4 w
    { s with
      currentState := idx.extractLsb' 2 2
      inputs := ⟨stepWord false true (idx.getLsbD 1) (idx.getLsbD 0) false false, 0⟩
        :: s.inputs.tail }
  else { s with inputs := ⟨BitVec.ofNat 6 w, w / 256⟩ :: s.inputs.tail }

end Sys2Proof.Machine
end

