-- ==== Sys2Proof/Machine/Configuration.lean ====
section
/-! DEFINITION. The configuration an instance gets from its knobs (R6, R52, R101). -/

namespace Sys2Proof.Machine

/-- `LP_EN` is 1 only when both long-press knobs were given; a half-given pair is `LP_EN` = 0 (R101,
C4, D27). A name or threshold that is not given is never read (R101, R52), so its field repeats the
plain name or is 0 (log entry 20). -/
def configOfKnobs (k : Knobs) : Config :=
  { tsWidth := k.tsWidth
    tick := k.tick
    debounceWindow := k.debounceWindow
    lpEn := k.nameLongPress.isSome && k.timeThreshold.isSome
    lpThreshold := k.timeThreshold.getD 0
    shiftEn := k.nameShifted.isSome
    swPresent := k.swPin
    pressLevel := k.pressLevel
    nameRotActive := k.activeName
    nameRotShifted := k.nameShifted.getD k.activeName
    nameSwNormal := k.normalName
    nameSwLong := k.nameLongPress.getD k.normalName }

end Sys2Proof.Machine
end

