-- ==== Sys2Proof/Machine/Output.lean ====
section
/-! DEFINITION. The codes of the output ports (R45 to R48) and the callback calls they stand for (R46,
R47, R48). Codes are the spec's (D4, D5, D18). -/

namespace Sys2Proof.Machine

/-- The code of a Direction on `dir` and `rot_ev_dir` (R45). -/
def directionCode : Direction → BitVec 2
  | .none => 0b00
  | .clockwise => 0b01
  | .counterClockwise => 0b10

/-- The code of an event kind on `sw_ev_kind` (R46); 0b00 is no event. -/
def switchEventCode : SwitchEvent → BitVec 2
  | .pressed => 0b01
  | .released => 0b10
  | .longPressed => 0b11

/-- The selector bit of a rotation event's name (R47). -/
def rotNameCode : RotName → Bool
  | .active => false
  | .shifted => true

/-- The selector bit of a switch event's name (R47). -/
def swNameCode : SwName → Bool
  | .normal => false
  | .long => true

/-- The output ports of R40 as bits. -/
structure PortBits where
  dir : BitVec 2
  rotEvValid : Bool
  rotEvName : Bool
  rotEvDir : BitVec 2
  swEvValid : Bool
  swEvKind : BitVec 2
  swEvName : Bool
  currentState : BitVec 2
  isPressed : Bool
  deriving DecidableEq, Repr

/-- The bits the ports show: the other fields of a port whose valid bit is 0 are 0 (R48). -/
def Ports.bits (p : Ports) : PortBits :=
  { dir := directionCode p.dir
    rotEvValid := p.rotEvent.isSome
    rotEvName := (p.rotEvent.map fun e => rotNameCode e.name).getD false
    rotEvDir := (p.rotEvent.map fun e => directionCode e.dir).getD 0
    swEvValid := p.swEvent.isSome
    swEvKind := (p.swEvent.map fun e => switchEventCode e.kind).getD 0
    swEvName := (p.swEvent.map fun e => swNameCode e.name).getD false
    currentState := p.obsState
    isPressed := p.obsPressed }

/-- The payload of a switch callback: "`bool` (pressed/released) plus an optional long-press variant",
which carries no Boolean (R46, D5). -/
inductive Payload where
  | level (pressed : Bool)
  | longPress
  deriving DecidableEq, Repr

/-- The payload a switch event stands for (R46). -/
def payloadOf : SwitchEvent → Payload
  | .pressed => .level true
  | .released => .level false
  | .longPressed => .longPress

/-- The logical name a rotation selector stands for (R47). -/
def rotNameOf (c : Config) : RotName → NameId
  | .active => c.nameRotActive
  | .shifted => c.nameRotShifted

/-- The logical name a switch selector stands for (R47). -/
def swNameOf (c : Config) : SwName → NameId
  | .normal => c.nameSwNormal
  | .long => c.nameSwLong

/-- The rotation callback call of the most recent cycle, `(name, Direction)` (R48). -/
def State.rotCallback (s : State) : Option (NameId × Direction) :=
  s.out.rotEvent.map fun e => (rotNameOf s.cfg e.name, e.dir)

/-- The switch callback call of the most recent cycle, `(name, payload)` (R48). -/
def State.swCallback (s : State) : Option (NameId × Payload) :=
  s.out.swEvent.map fun e => (swNameOf s.cfg e.name, payloadOf e.kind)

end Sys2Proof.Machine
end

