-- ==== Sys2Proof/Safety.lean ====
section
/-! DEFINITION. The terms the claims are stated in: what an operation leaves unchanged, the invariant of
the state (R20), and what a run of several cycles shows. A safe run is one whose steps all answer a next
state; by R125 every run of a legal configuration is one. -/

namespace Sys2Proof.Safety

open Sys2Proof.Machine

/-- The ROT operation of a pair (CLK, DT) (R41). -/
def rotOp : Bool → Bool → Instr
  | false, false => .rot00
  | false, true => .rot01
  | true, false => .rot10
  | true, true => .rot11

/-- The SW operation of a raw level (R41). -/
def swOp : Bool → Nat → Instr
  | false, now => .swL0 now
  | true, now => .swL1 now

/-- The five outcomes of a SW step (R93 to R96). -/
def swOutcomes (rawLevel : Bool) (now : Nat) : List Instr :=
  [.swDiscard rawLevel now, .swPress rawLevel now, .swRelease rawLevel now, .swLong rawLevel now,
    .swRefresh rawLevel now]

/-- The four outcomes of the name selection (R111 to R113). -/
def muxOutcomes : List Instr := [.muxActive, .muxShifted, .muxSuppress, .muxNone]

/-- The CLK level of the pair a state number labels: bit 0 (R43). -/
def clkOfState (v : StateNumber) : Bool := v.getLsbD 0

/-- The DT level of the pair a state number labels: bit 1 (R43). -/
def dtOfState (v : StateNumber) : Bool := v.getLsbD 1

/-- The state number that labels the pair (CLK, DT), by the table of R43. -/
def stateOfPair : Bool → Bool → StateNumber
  | false, false => 0
  | true, false => 1
  | true, true => 3
  | false, true => 2

/-- The pair (CLK, DT) differs from the one the state labels in exactly one line: a single Gray step
(R62 (b)). -/
def oneLineDiffers (v : StateNumber) (clk dt : Bool) : Bool :=
  (clk != clkOfState v) != (dt != dtOfState v)

/-- Nothing the switch owns differs (R21). -/
abbrev SameSwitch (s t : State) : Prop :=
  t.isPressed = s.isPressed ∧ t.pressStartedAt = s.pressStartedAt
    ∧ t.lastAcceptedAt = s.lastAcceptedAt ∧ t.lastValid = s.lastValid

/-- The five fields of R10 are the same. -/
abbrev SameBlock (s t : State) : Prop := t.currentState = s.currentState ∧ SameSwitch s t

/-- The constants of the instance, the coming inputs and the observation outputs are the same. -/
abbrev SameSetting (s t : State) : Prop :=
  t.cfg = s.cfg ∧ t.inputs = s.inputs ∧ t.out.obsState = s.out.obsState
    ∧ t.out.obsPressed = s.out.obsPressed

/-- The ports of the ROT slot are the same. -/
abbrev SameRotPorts (s t : State) : Prop :=
  t.out.dir = s.out.dir ∧ t.out.rotEvent = s.out.rotEvent

/-- No event on either event port and no Direction, as bits: `dir`, and both triples all zero (R48). -/
abbrev NoEvent (t : State) : Prop :=
  t.out.bits.dir = 0 ∧ t.out.bits.rotEvValid = false ∧ t.out.bits.rotEvName = false
    ∧ t.out.bits.rotEvDir = 0 ∧ t.out.bits.swEvValid = false ∧ t.out.bits.swEvKind = 0
    ∧ t.out.bits.swEvName = false

/-- The switch event port shows the triple (`sw_ev_valid`, `sw_ev_name`, `sw_ev_kind`) (R48). -/
abbrev SwPortShows (t : State) (valid name : Bool) (kind : BitVec 2) : Prop :=
  t.out.bits.swEvValid = valid ∧ t.out.bits.swEvName = name ∧ t.out.bits.swEvKind = kind

/-- The rotation event port shows the triple (`rot_ev_valid`, `rot_ev_name`, `rot_ev_dir`) (R48). -/
abbrev RotPortShows (t : State) (valid name : Bool) (dir : BitVec 2) : Prop :=
  t.out.bits.rotEvValid = valid ∧ t.out.bits.rotEvName = name ∧ t.out.bits.rotEvDir = dir

/-- Operation i answers a next state in which the decoder is in nxt and `dir` shows the code d, and
nothing else differs. -/
abbrev CellResult (i : Instr) (s : State) (nxt : StateNumber) (d : BitVec 2) : Prop :=
  ∃ t, exec i s = .next t ∧ t.currentState = nxt ∧ t.out.bits.dir = d ∧ SameSwitch s t
    ∧ SameSetting s t ∧ t.out.rotEvent = s.out.rotEvent ∧ t.out.swEvent = s.out.swEvent

/-- Operation i answers a next state in which the rotation event port shows a triple, and nothing else
differs. -/
abbrev MuxResult (i : Instr) (s : State) (valid name : Bool) (dir : BitVec 2) : Prop :=
  ∃ t, exec i s = .next t ∧ RotPortShows t valid name dir ∧ SameBlock s t ∧ SameSetting s t
    ∧ t.out.dir = s.out.dir ∧ t.out.swEvent = s.out.swEvent

/-- Operation i answers a next state with the four switch fields and the switch event port given, and
nothing else differs. -/
abbrev SwResult (i : Instr) (s : State) (isPressed : Bool) (pressStartedAt lastAcceptedAt : Nat)
    (lastValid valid name : Bool) (kind : BitVec 2) : Prop :=
  ∃ t, exec i s = .next t ∧ t.isPressed = isPressed ∧ t.pressStartedAt = pressStartedAt
    ∧ t.lastAcceptedAt = lastAcceptedAt ∧ t.lastValid = lastValid ∧ SwPortShows t valid name kind
    ∧ t.currentState = s.currentState ∧ SameRotPorts s t ∧ SameSetting s t

/-- `a -w b` of R7, on W-bit words. -/
def minusW (w : Nat) (a b : Nat) : Nat := (BitVec.ofNat w a - BitVec.ofNat w b).toNat

/-- The edge at `now` is inside the debounce window (R93). -/
abbrev InsideWindow (s : State) (now : Nat) : Prop :=
  s.lastValid = true ∧ minusW s.cfg.tsWidth now s.lastAcceptedAt < s.cfg.debounceWindow

/-- The edge at `now` passes step 1: no edge was accepted since reset, or the window is over (R93). -/
abbrev OutsideWindow (s : State) (now : Nat) : Prop :=
  s.lastValid = false ∨ s.cfg.debounceWindow ≤ minusW s.cfg.tsWidth now s.lastAcceptedAt

/-- A release at `now` is a long press (R95). -/
abbrev IsLong (s : State) (now : Nat) : Prop :=
  s.cfg.lpEn = true ∧ s.cfg.lpThreshold ≤ minusW s.cfg.tsWidth now s.pressStartedAt

/-- The value a W-bit register takes of `now`. -/
abbrev portNow (s : State) (now : Nat) : Nat := now % 2 ^ s.cfg.tsWidth

/-- Both timestamps are W-bit values (R10). -/
abbrev TimestampsFit (s : State) : Prop :=
  s.pressStartedAt < 2 ^ s.cfg.tsWidth ∧ s.lastAcceptedAt < 2 ^ s.cfg.tsWidth

/-- I3: while pressed, some edge has been accepted. -/
abbrev PressedIsValid (s : State) : Prop := s.isPressed = true → s.lastValid = true

/-- I4: while released, `press_started_at` is 0. -/
abbrev ReleasedIsCleared (s : State) : Prop := s.isPressed = false → s.pressStartedAt = 0

/-- I5: with no accepted edge since reset the switch fields are those of reset. -/
abbrev InvalidIsReset (s : State) : Prop :=
  s.lastValid = false → s.isPressed = false ∧ s.pressStartedAt = 0 ∧ s.lastAcceptedAt = 0

/-- A device without a switch keeps the switch fields of reset (R119). -/
abbrev NoSwitchIsReset (s : State) : Prop :=
  s.cfg.swPresent = false →
    s.isPressed = false ∧ s.pressStartedAt = 0 ∧ s.lastAcceptedAt = 0 ∧ s.lastValid = false

/-- The invariant of the state: a legal configuration, timestamps of W bits, I3 to I5 of R20, and
R119. -/
abbrev Consistent (s : State) : Prop :=
  s.cfg.legal = true ∧ TimestampsFit s ∧ PressedIsValid s ∧ ReleasedIsCleared s ∧ InvalidIsReset s
    ∧ NoSwitchIsReset s

/-- The states after each of the next k cycles, up to a stop. -/
def statesAfter : Nat → State → List State
  | 0, _ => []
  | k + 1, s =>
    match step s with
    | .next t => t :: statesAfter k t
    | .fault _ => []
    | .refused _ => []

/-- No coming cycle asserts `rst`. -/
def noReset (s : State) : Bool := s.inputs.all fun c => !c.iw.getLsbD 5

/-- No coming cycle asserts `rst` or a strobe; the levels and `now` are whatever they are. -/
def noStrobe (s : State) : Bool :=
  s.inputs.all fun c => !c.iw.getLsbD 5 && !c.iw.getLsbD 4 && !c.iw.getLsbD 1

/-- The Directions of the next k cycles. -/
def directions (k : Nat) (s : State) : List Direction := (statesAfter k s).map fun t => t.out.dir

/-- The switch events delivered in the next k cycles, in order. -/
def switchEvents (k : Nat) (s : State) : List SwitchEvent :=
  (statesAfter k s).filterMap fun t => t.out.swEvent.map fun e => e.kind

/-- Events alternate between Pressed and (Released or LongPressed), beginning with the one the given
press state allows (R20 I2). -/
def alternates : Bool → List SwitchEvent → Bool
  | _, [] => true
  | isPressed, .pressed :: rest => !isPressed && alternates true rest
  | isPressed, .released :: rest => isPressed && alternates false rest
  | isPressed, .longPressed :: rest => isPressed && alternates false rest

/-- The state number of the last reading that was one Gray step from the state before it, over the ROT
slots of the given cycles (R20 I1). -/
def lastAcceptedState : StateNumber → List InputCycle → StateNumber
  | v, [] => v
  | v, c :: rest =>
    let clk := c.iw.getLsbD 3
    let dt := c.iw.getLsbD 2
    if c.iw.getLsbD 4 && oneLineDiffers v clk dt then lastAcceptedState (stateOfPair clk dt) rest
    else lastAcceptedState v rest

/-- n cycles that each present the same step word. -/
def repeatWord (n : Nat) (iw : StepWord) : List InputCycle := List.replicate n { iw := iw, now := 0 }

end Sys2Proof.Safety
end

