-- ==== Sys2Proof/Certificates/Slice0/Obligations.lean ====
section
/-! DEFINITION. The statements about the model, from the numbered rules of spec/. -/

open Sys2Proof Sys2Proof.Machine Sys2Proof.Safety

/-! ## Encoding -/

/-- R53: the step words the spec writes out decode to the steps it writes them for. -/
def Obligations.SpelledStepWordsDecode : Prop :=
  ∀ t : Nat, decodeWord 0x20 t = [.reset] ∧ decodeWord 0x00 t = [.rotNop, .swNop]
    ∧ decodeWord 0x10 t = [.rot00, .swNop] ∧ decodeWord 0x14 t = [.rot01, .swNop]
    ∧ decodeWord 0x18 t = [.rot10, .swNop] ∧ decodeWord 0x1C t = [.rot11, .swNop]
    ∧ decodeWord 0x02 t = [.rotNop, .swL0 t] ∧ decodeWord 0x03 t = [.rotNop, .swL1 t]
    ∧ decodeWord 0x1B t = [.rot10, .swL1 t]

/-- R41: a word is one RESET step, or one operation of the ROT slot and one of the SW slot, and an
operation is in it exactly when the word meets its mask and match. -/
def Obligations.WordHoldsAnOperationIffItMatchesItsRow : Prop :=
  ∀ (iw : StepWord) (t : Nat),
    (decodeWord iw t).map Instr.slot =
      (if iw.getLsbD 5 then [some .reset] else [some .rot, some .sw]) ∧
    ∀ row ∈ ([(.reset, 0x20, 0x20), (.rotNop, 0x30, 0x00),
      (.rot00, 0x3C, 0x10), (.rot01, 0x3C, 0x14), (.rot10, 0x3C, 0x18), (.rot11, 0x3C, 0x1C),
      (.swNop, 0x22, 0x00), (.swL0 t, 0x23, 0x02), (.swL1 t, 0x23, 0x03)]
      : List (Instr × StepWord × StepWord)),
    row.1 ∈ decodeWord iw t ↔ iw &&& row.2.1 = row.2.2

/-- R41, R49: decoding the encoded word of a well-formed cycle, and the encoded index of a cell, gives
it back, with every operand. -/
def Obligations.DecodeOfEncodeGivesTheCycleBack : Prop :=
  (∀ (w : Nat) (ops : List Instr), cycleWf w ops = true →
    decodeWord (encodeCycle ops) (cycleNow ops) = ops) ∧
  (∀ i : Instr, i.format = .cell → decodeCell (encodeCell i) = i)

/-- R50, R51: every word is encoded back to its canonical spelling, which means the same. That the
spelling does not depend on `SW_PRESENT` is the model's choice (log entry 21). -/
def Obligations.EncodeOfDecodeIsTheCanonicalSpelling : Prop :=
  ∀ (iw : StepWord) (t : Nat), encodeCycle (decodeWord iw t) = canonicalWord iw
    ∧ decodeWord (canonicalWord iw) t = decodeWord iw t

/-- R49: the sixteen cells, each in its own state, hold the sixteen digits of the constant table. -/
def Obligations.CellsHoldTheConstantTable : Prop :=
  ∀ (idx : CellIndex) (s : State), s.currentState = idx.extractLsb' 2 2 →
    ∃ t, exec (decodeCell idx) s = .next t ∧
      t.currentState ++ t.out.bits.dir = (([0x0, 0x8, 0x4, 0x0, 0x2, 0x4, 0x4, 0xC, 0x1, 0x8, 0x8,
        0xC, 0xC, 0x8, 0x4, 0xC] : List (BitVec 4)).getD idx.toNat 0 : BitVec 4)

/-! ## The cycle -/

/-- R5, R34, R41: a step of a legal configuration runs the decoded operation, or the two decoded
operations one after the other, on the state in which the cycle's inputs are taken and the ports show no
event. -/
def Obligations.StepRunsTheDecodedOperations : Prop :=
  ∀ (s : State) (c : InputCycle) (rest : List InputCycle), s.cfg.legal = true →
    s.inputs = c :: rest →
    (∀ i, decodeWord c.iw c.now = [i] → step s = exec i
      { s with inputs := rest, out := ⟨.none, none, none, s.currentState,
        s.cfg.swPresent && s.isPressed⟩ }) ∧
    (∀ i j t, decodeWord c.iw c.now = [i, j] → exec i
      { s with inputs := rest, out := ⟨.none, none, none, s.currentState,
        s.cfg.swPresent && s.isPressed⟩ } = .next t → step s = exec j t)

/-- R22, R135, with log entry 6 (the model's choice): with no inputs left a cycle is idle. -/
def Obligations.NoInputIsAnIdleCycle : Prop :=
  ∀ s : State, s.cfg.legal = true → s.inputs = [] →
    ∃ t, step s = .next t ∧ SameBlock s t ∧ NoEvent t ∧ t.cfg = s.cfg ∧ t.inputs = []

/-- R125: every operation is total, and keeps the constants, the coming inputs and the observation
outputs. -/
def Obligations.EveryOperationCompletes : Prop :=
  ∀ (i : Instr) (s : State), ∃ t, exec i s = .next t ∧ SameSetting s t

/-- R125: a step faults for no state and no input, and is refused only for an illegal configuration
(log entry 9). -/
def Obligations.StepNeverFaultsAndRefusesOnlyIllegalConfigurations : Prop :=
  (∀ s : State, s.cfg.legal = true → ∃ t, step s = .next t) ∧
  (∀ (s : State) (f : Fault), step s ≠ .fault f) ∧
  (∀ (s : State) (r : Refusal), step s = .refused r →
    r = .illegalConfiguration ∧ s.cfg.legal = false)

/-- R156: no run blocks, whatever its length and its inputs. -/
def Obligations.RunsOfAnyLengthComplete : Prop :=
  ∀ (k : Nat) (s : State), s.cfg.legal = true →
    ∃ t : State, Host.Core.run core k s = .next t ∧ t.cfg = s.cfg ∧ t.inputs = s.inputs.drop k

/-- R51: an ignored input has no effect. Two cycles whose inputs differ only where they are ignored are
the same step. -/
def Obligations.IgnoredInputsHaveNoEffect : Prop :=
  ∀ (s : State) (c d : InputCycle) (rest : List InputCycle),
    c.iw.getLsbD 5 = d.iw.getLsbD 5 →
    (c.iw.getLsbD 5 = false →
      c.iw.getLsbD 4 = d.iw.getLsbD 4 ∧
      (c.iw.getLsbD 4 = true → c.iw.getLsbD 3 = d.iw.getLsbD 3 ∧ c.iw.getLsbD 2 = d.iw.getLsbD 2) ∧
      (s.cfg.swPresent = true → c.iw.getLsbD 1 = d.iw.getLsbD 1 ∧
        (c.iw.getLsbD 1 = true → c.iw.getLsbD 0 = d.iw.getLsbD 0 ∧ c.now = d.now))) →
    step { s with inputs := c :: rest } = step { s with inputs := d :: rest }

/-- R19, R40: the outputs hold nothing between steps: two states that differ only in what the outputs
showed last go on in the same way, with the same outputs. -/
def Obligations.OutputsHoldNothingBetweenSteps : Prop :=
  ∀ (k : Nat) (s s' : State), s'.cfg = s.cfg → SameBlock s s' → s'.inputs = s.inputs →
    Host.Core.run core (k + 1) s' = Host.Core.run core (k + 1) s

/-- R17: no step writes the configuration; each step takes one cycle's inputs. -/
def Obligations.StepKeepsTheConfiguration : Prop :=
  ∀ s t : State, step s = .next t → t.cfg = s.cfg ∧ t.inputs = s.inputs.tail

/-- R40, R134: the observation outputs show the registered values of the cycle. Two points are the
model's reading, DEDUCED: a device without a switch shows not pressed (log entry 12), and a RESET cycle
shows the values from before the reset (log entry 17). -/
def Obligations.ObservationOutputsShowTheRegisteredValues : Prop :=
  ∀ s : State, s.cfg.legal = true → ∃ t, step s = .next t ∧ t.out.bits.currentState = s.currentState
    ∧ t.out.bits.isPressed = (s.cfg.swPresent && s.isPressed)

/-- R48, R50: only the listed combinations ever stand on the event ports, and `dir` is never 0b11. -/
def Obligations.OnlyLegalPortCodesAreProduced : Prop :=
  ∀ s : State, s.cfg.legal = true → ∃ t, step s = .next t ∧ t.out.bits.dir ≠ 0b11 ∧
    (RotPortShows t true false 0b01 ∨ RotPortShows t true false 0b10 ∨ RotPortShows t true true 0b01
      ∨ RotPortShows t true true 0b10 ∨ RotPortShows t false false 0b00) ∧
    (SwPortShows t true false 0b01 ∨ SwPortShows t true false 0b10 ∨ SwPortShows t true true 0b11
      ∨ SwPortShows t false false 0b00)

/-! ## Reset -/

/-- R23 to R27, R140: RESET clears the five fields and shows no event. -/
def Obligations.ResetOperationClearsTheFiveFields : Prop :=
  ∀ s : State, ∃ t, exec .reset s = .next t ∧ t.currentState = 0 ∧ t.isPressed = false
    ∧ t.pressStartedAt = 0 ∧ t.lastAcceptedAt = 0 ∧ t.lastValid = false ∧ NoEvent t
    ∧ SameSetting s t

/-- R140, R141: in a cycle with `rst` = 1 the five fields are cleared and no event is shown, whatever
the other inputs are. -/
def Obligations.ResetWinsOverBothSlots : Prop :=
  ∀ (s : State) (c : InputCycle) (rest : List InputCycle), s.cfg.legal = true →
    s.inputs = c :: rest → c.iw.getLsbD 5 = true →
    ∃ t, step s = .next t ∧ t.currentState = 0 ∧ t.isPressed = false ∧ t.pressStartedAt = 0
      ∧ t.lastAcceptedAt = 0 ∧ t.lastValid = false ∧ NoEvent t ∧ t.inputs = rest ∧ t.cfg = s.cfg

/-- R28: the single state a model starts from. -/
def Obligations.StateAfterResetIsAllZero : Prop :=
  State.reset.currentState = 0 ∧ State.reset.isPressed = false ∧ State.reset.pressStartedAt = 0
    ∧ State.reset.lastAcceptedAt = 0 ∧ State.reset.lastValid = false

/-- R143, derived by the spec: after RESET the first SW step is never discarded, and the first ROT step is judged against
state 0. -/
def Obligations.FirstStepsAfterResetAreJudgedFromRest : Prop :=
  ∀ s : State, s.currentState = 0 → s.isPressed = false → s.pressStartedAt = 0 →
    s.lastAcceptedAt = 0 → s.lastValid = false →
    (s.cfg.swPresent = true → ∀ (l : Bool) (now : Nat),
      (l = s.cfg.pressLevel →
        SwResult (swOp l now) s true (portNow s now) (portNow s now) true true false 0b01) ∧
      (l ≠ s.cfg.pressLevel →
        SwResult (swOp l now) s false 0 (portNow s now) true false false 0b00)) ∧
    (∃ t, exec .rot01 s = .next t ∧ t.currentState = 2 ∧ t.out.dir = .none) ∧
    (∃ t, exec .rot10 s = .next t ∧ t.currentState = 1 ∧ t.out.dir = .none) ∧
    (∃ t, exec .rot00 s = .next t ∧ t.currentState = 0 ∧ t.out.dir = .none) ∧
    (∃ t, exec .rot11 s = .next t ∧ t.currentState = 0 ∧ t.out.dir = .none)

/-! ## The quadrature decoder -/

/-- R63, R65: a reading one Gray step away is accepted; it shows a Direction only when it is the pair
00, named by the state left. -/
def Obligations.SingleGrayStepIsAccepted : Prop :=
  ∀ (clk dt : Bool) (s : State), oneLineDiffers s.currentState clk dt = true →
    ∃ t, exec (rotOp clk dt) s = .next t ∧ t.currentState = stateOfPair clk dt ∧
      t.out.bits.dir = (if clk = false ∧ dt = false then
        (if s.currentState = 2 then 0b01 else 0b10) else 0b00)

/-- R64: any other reading, same or diagonal, is rejected: the state is unchanged, `dir` is None and
there is no rotation event. -/
def Obligations.OtherReadingsAreRejected : Prop :=
  ∀ (clk dt : Bool) (s : State), oneLineDiffers s.currentState clk dt = false →
    ∃ t, exec (rotOp clk dt) s = .next t ∧ SameBlock s t ∧ t.out.bits.dir = 0b00
      ∧ RotPortShows t false false 0b00

/-- R65: a Direction is produced by exactly two of the sixteen (state, reading) pairs, both of them
transitions into state 0. -/
def Obligations.DirectionComesFromTwoCellsOnly : Prop :=
  ∀ (clk dt : Bool) (s : State), ∃ t, exec (rotOp clk dt) s = .next t ∧
    (t.out.dir = .clockwise ↔ s.currentState = 2 ∧ clk = false ∧ dt = false) ∧
    (t.out.dir = .counterClockwise ↔ s.currentState = 1 ∧ clk = false ∧ dt = false) ∧
    (t.out.dir ≠ .none → t.currentState = 0)

/-- R60, R118: a ROT step completes in every state and writes nothing but `current_state`, `dir` and
the rotation event port. -/
def Obligations.RotStepFrame : Prop :=
  ∀ (clk dt : Bool) (s : State), ∃ t, exec (rotOp clk dt) s = .next t ∧ SameSwitch s t
    ∧ SameSetting s t ∧ t.out.swEvent = s.out.swEvent

/-- R83: in a cycle's ROT.NOP the decoder does nothing and shows nothing. -/
def Obligations.RotNopKeepsTheState : Prop :=
  ∀ s : State, ∃ t, exec .rotNop s = .next t ∧ SameBlock s t ∧ SameSetting s t
    ∧ t.out.bits.dir = 0b00 ∧ RotPortShows t false false 0b00 ∧ t.out.swEvent = s.out.swEvent

/-- R67 to R74: the cells of states 0 and 1. -/
def Obligations.CellsOfStatesZeroAndOne : Prop :=
  ∀ s : State,
    (s.currentState = 0 →
      CellResult .qdt00 s 0 0b00 ∧ CellResult .qdt01 s 2 0b00 ∧ CellResult .qdt02 s 1 0b00
        ∧ CellResult .qdt03 s 0 0b00) ∧
    (s.currentState = 1 →
      CellResult .qdt10 s 0 0b10 ∧ CellResult .qdt11 s 1 0b00 ∧ CellResult .qdt12 s 1 0b00
        ∧ CellResult .qdt13 s 3 0b00)

/-- R75 to R82: the cells of states 2 and 3. -/
def Obligations.CellsOfStatesTwoAndThree : Prop :=
  ∀ s : State,
    (s.currentState = 2 →
      CellResult .qdt20 s 0 0b01 ∧ CellResult .qdt21 s 2 0b00 ∧ CellResult .qdt22 s 2 0b00
        ∧ CellResult .qdt23 s 3 0b00) ∧
    (s.currentState = 3 →
      CellResult .qdt30 s 3 0b00 ∧ CellResult .qdt31 s 2 0b00 ∧ CellResult .qdt32 s 1 0b00
        ∧ CellResult .qdt33 s 3 0b00)

/-- Log entries 2 and 3 (the model's choice): a cell that is not looked up, and each of the nine outcomes
when any part of its condition fails, change nothing. -/
def Obligations.UnselectedRowsChangeNothing : Prop :=
  ∀ s : State,
    (∀ idx : CellIndex, s.currentState ≠ idx.extractLsb' 2 2 → exec (decodeCell idx) s = .next s) ∧
    (s.out.dir = .none → exec .muxActive s = .next s ∧ exec .muxShifted s = .next s
      ∧ exec .muxSuppress s = .next s) ∧
    (s.out.dir ≠ .none → exec .muxNone s = .next s) ∧
    ((s.cfg.swPresent && s.isPressed) = true → exec .muxActive s = .next s) ∧
    ((s.cfg.swPresent && s.isPressed) = false →
      exec .muxShifted s = .next s ∧ exec .muxSuppress s = .next s) ∧
    (s.cfg.shiftEn = false → exec .muxShifted s = .next s) ∧
    (s.cfg.shiftEn = true → exec .muxSuppress s = .next s) ∧
    (∀ (l : Bool) (now : Nat),
      (s.cfg.swPresent = false → ∀ i ∈ swOutcomes l now, exec i s = .next s) ∧
      (InsideWindow s now → ∀ i ∈ swOutcomes l now, i ≠ .swDiscard l now → exec i s = .next s) ∧
      (OutsideWindow s now → exec (.swDiscard l now) s = .next s) ∧
      (¬ (l = s.cfg.pressLevel ∧ s.isPressed = false) → exec (.swPress l now) s = .next s) ∧
      (¬ (l ≠ s.cfg.pressLevel ∧ s.isPressed = true) →
        exec (.swRelease l now) s = .next s ∧ exec (.swLong l now) s = .next s) ∧
      (IsLong s now → exec (.swRelease l now) s = .next s) ∧
      (¬ IsLong s now → exec (.swLong l now) s = .next s) ∧
      (¬ (l = s.cfg.pressLevel ↔ s.isPressed = true) → exec (.swRefresh l now) s = .next s))

/-- R49, R66, R118 with R67 to R82 and R111 to R113: a ROT step is the cell its state and reading
select and then exactly one of the four outcomes of the name selection. R66 and R118 are derived by the
spec; that the other three outcomes change nothing is the model's choice (log entry 3). -/
def Obligations.RotStepIsItsCellAndOneMuxOutcome : Prop :=
  ∀ (clk dt : Bool) (s : State), ∃ t, ∃ m ∈ muxOutcomes,
    exec (decodeCell (cellIndex s.currentState (readingOf clk dt))) s = .next t ∧
    exec (rotOp clk dt) s = exec m t ∧
    ∀ n ∈ muxOutcomes, n ≠ m → exec n t = .next t

/-- R84, derived by the spec from its cells: from state 0 a full cycle, each pair presented any number of times, gives exactly one
Direction, on the step that returns to rest. -/
def Obligations.FullCyclesGiveExactlyOneDirection : Prop :=
  ∀ (s : State) (a b c d : Nat), s.cfg.legal = true → s.currentState = 0 →
    (s.inputs = repeatWord (a + 1) 0x18 ++ repeatWord (b + 1) 0x1C ++ repeatWord (c + 1) 0x14
        ++ repeatWord (d + 1) 0x10 →
      directions (a + b + c + d + 4) s = List.replicate (a + b + c + 3) .none ++ [.clockwise]
        ++ List.replicate d .none ∧
      (statesAfter (a + b + c + d + 4) s).map (fun t => t.currentState) = List.replicate (a + 1) 1
        ++ List.replicate (b + 1) 3 ++ List.replicate (c + 1) 2 ++ List.replicate (d + 1) 0) ∧
    (s.inputs = repeatWord (a + 1) 0x14 ++ repeatWord (b + 1) 0x1C ++ repeatWord (c + 1) 0x18
        ++ repeatWord (d + 1) 0x10 →
      directions (a + b + c + d + 4) s = List.replicate (a + b + c + 3) .none
        ++ [.counterClockwise] ++ List.replicate d .none ∧
      (statesAfter (a + b + c + d + 4) s).map (fun t => t.currentState) = List.replicate (a + 1) 2
        ++ List.replicate (b + 1) 3 ++ List.replicate (c + 1) 1 ++ List.replicate (d + 1) 0)

/-- R85, the spec's decision D16 (log entry 15): a partial movement out of rest and back gives a Direction, named by the side rest is
entered from. -/
def Obligations.PartialReturnsGiveADirection : Prop :=
  ∀ s : State, s.cfg.legal = true → s.currentState = 0 →
    (s.inputs = [⟨0x18, 0⟩, ⟨0x10, 0⟩] → directions 2 s = [.none, .counterClockwise]) ∧
    (s.inputs = [⟨0x14, 0⟩, ⟨0x10, 0⟩] → directions 2 s = [.none, .clockwise]) ∧
    (s.inputs = [⟨0x18, 0⟩, ⟨0x1C, 0⟩, ⟨0x18, 0⟩, ⟨0x10, 0⟩] →
      directions 4 s = [.none, .none, .none, .counterClockwise])

/-- R86, derived by the spec: any number of ROT steps whose reading denotes the current state change nothing and give None;
a ROT step applied twice gives None the second time. -/
def Obligations.RepeatedReadingsGiveNoDirection : Prop :=
  ∀ (clk dt : Bool) (s : State),
    (s.currentState = stateOfPair clk dt → ∀ n : Nat, ∃ u,
      runOps (List.replicate (n + 1) (rotOp clk dt)) s = .next u ∧
        u.currentState = s.currentState ∧ u.out.dir = .none) ∧
    (∃ t u, exec (rotOp clk dt) s = .next t ∧ exec (rotOp clk dt) t = .next u ∧
      u.currentState = t.currentState ∧ u.out.dir = .none)

/-- R20 (I1), R87: over any run without RESET `current_state` is the label of the last reading that was
one Gray step from the state before it. -/
def Obligations.CurrentStateIsTheLastAcceptedReading : Prop :=
  ∀ (k : Nat) (s : State), s.cfg.legal = true → noReset s = true →
    ∃ t : State, Host.Core.run core k s = .next t ∧
      t.currentState = lastAcceptedState s.currentState (s.inputs.take k)

/-- R88, derived by the spec: over any run without RESET the Clockwise results are as many as the transitions from 2 to 0,
the CounterClockwise results as many as those from 1 to 0; no step has a Direction unless it changes the
state and leaves it at 0. -/
def Obligations.DirectionsCountTheReturnsToRest : Prop :=
  ∀ (k : Nat) (s : State), s.cfg.legal = true → noReset s = true →
    (directions k s).count .clockwise = (statesAfter k s).countP
      (fun t => t.out.obsState == 2 && t.currentState == 0) ∧
    (directions k s).count .counterClockwise = (statesAfter k s).countP
      (fun t => t.out.obsState == 1 && t.currentState == 0) ∧
    ∀ t ∈ statesAfter k s, t.out.dir ≠ .none → t.currentState = 0 ∧ t.out.obsState ≠ t.currentState

/-! ## The debounced switch -/

/-- R93: an edge inside the window is discarded: nothing is written and there is no event. Any other
edge is not. -/
def Obligations.OnlyEdgesInsideTheWindowAreDiscarded : Prop :=
  ∀ (l : Bool) (now : Nat) (s : State), s.cfg.swPresent = true →
    (InsideWindow s now → SwResult (swOp l now) s s.isPressed s.pressStartedAt s.lastAcceptedAt
      s.lastValid false false 0b00) ∧
    (OutsideWindow s now → ∃ t, exec (swOp l now) s = .next t ∧ t.lastAcceptedAt = portNow s now
      ∧ t.lastValid = true)

/-- R94: an accepted press. -/
def Obligations.AcceptedPressSetsTheSwitch : Prop :=
  ∀ (l : Bool) (now : Nat) (s : State), s.cfg.swPresent = true → OutsideWindow s now →
    l = s.cfg.pressLevel → s.isPressed = false →
    SwResult (swOp l now) s true (portNow s now) (portNow s now) true true false 0b01

/-- R95: an accepted release reports LongPressed or Released, and clears the press. -/
def Obligations.AcceptedReleaseClassifiesThePress : Prop :=
  ∀ (l : Bool) (now : Nat) (s : State), s.cfg.swPresent = true → OutsideWindow s now →
    l ≠ s.cfg.pressLevel → s.isPressed = true →
    (IsLong s now → SwResult (swOp l now) s false 0 (portNow s now) true true true 0b11) ∧
    (¬ IsLong s now → SwResult (swOp l now) s false 0 (portNow s now) true true false 0b10)

/-- R96: a duplicate level outside the window moves the window and gives no event. -/
def Obligations.DuplicateLevelRefreshesTheWindow : Prop :=
  ∀ (l : Bool) (now : Nat) (s : State), s.cfg.swPresent = true → OutsideWindow s now →
    (l = s.cfg.pressLevel ↔ s.isPressed = true) →
    SwResult (swOp l now) s s.isPressed s.pressStartedAt (portNow s now) true false false 0b00

/-- R99, and R119 for a device without a switch: no SW step, and a SW slot that is ignored, keep the
four fields and give no event. -/
def Obligations.NoSwitchStepKeepsTheSwitch : Prop :=
  ∀ s : State,
    SwResult .swNop s s.isPressed s.pressStartedAt s.lastAcceptedAt s.lastValid false false 0b00 ∧
    (s.cfg.swPresent = false → ∀ (l : Bool) (now : Nat),
      SwResult (swOp l now) s s.isPressed s.pressStartedAt s.lastAcceptedAt s.lastValid false false
        0b00)

/-- R90: a SW step completes in every state and never writes `current_state` nor a rotation port. -/
def Obligations.SwStepFrame : Prop :=
  ∀ (l : Bool) (now : Nat) (s : State), ∃ t, exec (swOp l now) s = .next t
    ∧ t.currentState = s.currentState ∧ SameRotPorts s t ∧ SameSetting s t

/-- R93 to R96: each of the five outcomes, when its condition holds, has the effect the spec gives
it. -/
def Obligations.SwitchOutcomesHaveTheirEffect : Prop :=
  ∀ (l : Bool) (now : Nat) (s : State), s.cfg.swPresent = true →
    (InsideWindow s now → SwResult (.swDiscard l now) s s.isPressed s.pressStartedAt
      s.lastAcceptedAt s.lastValid false false 0b00) ∧
    (OutsideWindow s now → l = s.cfg.pressLevel → s.isPressed = false →
      SwResult (.swPress l now) s true (portNow s now) (portNow s now) true true false 0b01) ∧
    (OutsideWindow s now → l ≠ s.cfg.pressLevel → s.isPressed = true → ¬ IsLong s now →
      SwResult (.swRelease l now) s false 0 (portNow s now) true true false 0b10) ∧
    (OutsideWindow s now → l ≠ s.cfg.pressLevel → s.isPressed = true → IsLong s now →
      SwResult (.swLong l now) s false 0 (portNow s now) true true true 0b11) ∧
    (OutsideWindow s now → (l = s.cfg.pressLevel ↔ s.isPressed = true) →
      SwResult (.swRefresh l now) s s.isPressed s.pressStartedAt (portNow s now) true false false
        0b00)

/-- R105, derived by the spec: with a switch present a SW step is exactly one of its five outcomes. That
the other four change nothing is the model's choice (log entry 3). -/
def Obligations.SwStepIsExactlyOneOutcome : Prop :=
  ∀ (l : Bool) (now : Nat) (s : State), s.cfg.swPresent = true →
    ∃ i ∈ swOutcomes l now, exec (swOp l now) s = exec i s ∧
      ∀ j ∈ swOutcomes l now, j ≠ i → exec j s = .next s

/-- R101: with `LP_EN` = 0 every accepted release is Released, `sw_ev_name` is 0, and neither
`LP_THRESHOLD` nor `NAME_SW_LONG` is read; `LP_EN` is 1 exactly when both knobs are given. -/
def Obligations.LongPressDisabledIsNeverReported : Prop :=
  (∀ (l : Bool) (now : Nat) (s : State), s.cfg.lpEn = false → ∃ t,
    exec (swOp l now) s = .next t ∧ t.out.bits.swEvKind ≠ 0b11 ∧ t.out.bits.swEvName = false ∧
      (s.cfg.swPresent = true → OutsideWindow s now → l ≠ s.cfg.pressLevel → s.isPressed = true →
        SwPortShows t true false 0b10) ∧
      ∀ (thr : Nat) (name : NameId),
        exec (swOp l now) { s with cfg := { s.cfg with lpThreshold := thr, nameSwLong := name } } =
          .next { t with cfg := { s.cfg with lpThreshold := thr, nameSwLong := name } }) ∧
  (∀ k : Knobs, (configOfKnobs k).lpEn = true ↔
    (∃ name, k.nameLongPress = some name) ∧ (∃ thr, k.timeThreshold = some thr))

/-- R100: the corner cases of the two comparisons. -/
def Obligations.WindowAndThresholdCorners : Prop :=
  ∀ (l : Bool) (now : Nat) (s : State), s.cfg.swPresent = true →
    ∃ t, exec (swOp l now) s = .next t ∧
      (s.cfg.debounceWindow = 0 → t.lastAcceptedAt = portNow s now ∧ t.lastValid = true) ∧
      (s.cfg.debounceWindow = 2 ^ s.cfg.tsWidth - 1 → s.lastValid = true →
        minusW s.cfg.tsWidth now s.lastAcceptedAt ≠ 2 ^ s.cfg.tsWidth - 1 → SameBlock s t) ∧
      (s.cfg.debounceWindow = 2 ^ s.cfg.tsWidth - 1 →
        minusW s.cfg.tsWidth now s.lastAcceptedAt = 2 ^ s.cfg.tsWidth - 1 →
        t.lastAcceptedAt = portNow s now ∧ t.lastValid = true) ∧
      (s.cfg.lpEn = true → s.cfg.lpThreshold = 0 → t.out.bits.swEvKind ≠ 0b10) ∧
      (portNow s now = s.lastAcceptedAt → s.lastValid = true → s.cfg.debounceWindow ≠ 0 →
        SameBlock s t) ∧
      (portNow s now = s.pressStartedAt → s.cfg.lpThreshold ≠ 0 → t.out.bits.swEvKind ≠ 0b11)

/-- R106: under the time premise `elapsed` and `held` are the true durations. -/
def Obligations.ModularTimesAreTrueDurations : Prop :=
  ∀ (s : State) (t₀ t₁ : Nat), t₀ ≤ t₁ → t₁ - t₀ < 2 ^ s.cfg.tsWidth →
    (s.lastAcceptedAt = t₀ % 2 ^ s.cfg.tsWidth →
      s.elapsed (t₁ % 2 ^ s.cfg.tsWidth) = t₁ - t₀) ∧
    (s.pressStartedAt = t₀ % 2 ^ s.cfg.tsWidth →
      s.held (t₁ % 2 ^ s.cfg.tsWidth) = t₁ - t₀)

/-- R103, derived by the spec: under the time premise, a threshold no longer than the window makes every accepted release a
long press. -/
def Obligations.ShortThresholdMakesEveryReleaseLong : Prop :=
  ∀ (l : Bool) (s : State) (tp ta tn : Nat), tp ≤ ta → ta ≤ tn → tn - tp < 2 ^ s.cfg.tsWidth →
    s.pressStartedAt = tp % 2 ^ s.cfg.tsWidth → s.lastAcceptedAt = ta % 2 ^ s.cfg.tsWidth →
    s.lastValid = true → s.isPressed = true → s.cfg.swPresent = true → l ≠ s.cfg.pressLevel →
    s.cfg.lpEn = true → s.cfg.lpThreshold ≤ s.cfg.debounceWindow →
    s.cfg.debounceWindow ≤ tn - ta →
    SwResult (swOp l (tn % 2 ^ s.cfg.tsWidth)) s false 0 (tn % 2 ^ s.cfg.tsWidth) true true true 0b11

/-- R104, derived by the spec: a release lost in the window is recovered at the next accepted edges: the later press is a
duplicate, and the release after it is measured from the first press. -/
def Obligations.LostReleaseIsMeasuredFromTheFirstPress : Prop :=
  ∀ (l : Bool) (n₁ n₂ n₃ : Nat) (s : State), s.cfg.swPresent = true → s.isPressed = true →
    l = s.cfg.pressLevel → InsideWindow s n₁ → OutsideWindow s n₂ →
    s.cfg.debounceWindow ≤ minusW s.cfg.tsWidth n₃ n₂ →
    ∃ t u v, exec (swOp (!l) n₁) s = .next t ∧ exec (swOp l n₂) t = .next u
      ∧ exec (swOp (!l) n₃) u = .next v ∧ SwPortShows t false false 0b00
      ∧ SwPortShows u false false 0b00 ∧ u.isPressed = true ∧ v.isPressed = false
      ∧ (IsLong s n₃ → SwPortShows v true true 0b11) ∧ (¬ IsLong s n₃ → SwPortShows v true false 0b10)

/-- R20 (I3), R94, R96: a step that makes the switch pressed records its `now`; while the switch stays
pressed the record is kept. -/
def Obligations.PressStartIsTheTimeOfThePress : Prop :=
  ∀ s : State, s.cfg.legal = true → s.nextInput.iw.getLsbD 5 = false →
    ∃ t, step s = .next t ∧
      (s.isPressed = true → t.isPressed = true → t.pressStartedAt = s.pressStartedAt) ∧
      (s.isPressed = false → t.isPressed = true →
        t.pressStartedAt = portNow s s.nextInput.now ∧ t.lastAcceptedAt = portNow s s.nextInput.now)

/-- R20 (I2), R97: over any run without RESET the events alternate between Pressed and one of Released
and LongPressed, beginning with the one the press state allows. -/
def Obligations.SwitchEventsAlternate : Prop :=
  ∀ (k : Nat) (s : State), s.cfg.legal = true → noReset s = true →
    alternates s.isPressed (switchEvents k s) = true

/-- R99, R102: over any run without strobes nothing happens, whatever `now` shows. -/
def Obligations.TimeAloneDoesNothing : Prop :=
  ∀ (k : Nat) (s : State), s.cfg.legal = true → noStrobe s = true →
    (statesAfter k s).length = k ∧ ∀ t ∈ statesAfter k s, SameBlock s t ∧ NoEvent t

/-- R91: which raw level means pressed is only the parameter `PRESS_LEVEL`: exchanging it exchanges the
two SW steps. -/
def Obligations.PressLevelExchangesTheTwoSwSteps : Prop :=
  ∀ (l : Bool) (now : Nat) (s : State), ∃ t, exec (swOp l now) s = .next t ∧
    exec (swOp (!l) now) { s with cfg := { s.cfg with pressLevel := !s.cfg.pressLevel } } =
      .next { t with cfg := { s.cfg with pressLevel := !s.cfg.pressLevel } }

/-! ## The mux -/

/-- R111 to R113: a rotation event is delivered exactly when the decoder gives a Direction and the
switch is released or a shifted name is configured; it carries that Direction and the name the press
state chooses. -/
def Obligations.RotationEventIsNamedByThePressState : Prop :=
  ∀ (clk dt : Bool) (s : State), ∃ t, exec (rotOp clk dt) s = .next t ∧
    (t.out.bits.dir = 0b00 → RotPortShows t false false 0b00) ∧
    (t.out.bits.dir ≠ 0b00 → (s.cfg.swPresent && s.isPressed) = false →
      RotPortShows t true false t.out.bits.dir) ∧
    (t.out.bits.dir ≠ 0b00 → (s.cfg.swPresent && s.isPressed) = true → s.cfg.shiftEn = true →
      RotPortShows t true true t.out.bits.dir) ∧
    (t.out.bits.dir ≠ 0b00 → (s.cfg.swPresent && s.isPressed) = true → s.cfg.shiftEn = false →
      RotPortShows t false false 0b00)

/-- R110 to R113: each of the four outcomes, when its condition holds on the `dir` before it, shows the
rotation event the spec gives it. -/
def Obligations.MuxOutcomesHaveTheirEffect : Prop :=
  ∀ s : State,
    (s.out.dir = .none → MuxResult .muxNone s false false 0b00) ∧
    (s.out.dir ≠ .none → (s.cfg.swPresent && s.isPressed) = false →
      MuxResult .muxActive s true false s.out.bits.dir) ∧
    (s.out.dir ≠ .none → (s.cfg.swPresent && s.isPressed) = true → s.cfg.shiftEn = true →
      MuxResult .muxShifted s true true s.out.bits.dir) ∧
    (s.out.dir ≠ .none → (s.cfg.swPresent && s.isPressed) = true → s.cfg.shiftEn = false →
      MuxResult .muxSuppress s false false 0b00)

/-- R34, R115: in a cycle with both slots each port and each sub-block goes as if the other slot were
empty: the rotation event is named by the press state from before the cycle's SW step. -/
def Obligations.SameCycleSlotsDoNotInterfere : Prop :=
  ∀ (s : State) (c : InputCycle) (rest : List InputCycle), s.cfg.legal = true →
    s.inputs = c :: rest → c.iw.getLsbD 5 = false →
    ∃ t r w, step s = .next t ∧
      step { s with inputs := ⟨c.iw &&& 0x3C, c.now⟩ :: rest } = .next r ∧
      step { s with inputs := ⟨c.iw &&& 0x23, c.now⟩ :: rest } = .next w ∧
      t.currentState = r.currentState ∧ SameRotPorts r t ∧ SameSwitch w t
      ∧ t.out.swEvent = w.out.swEvent

/-- R121, derived by the spec: the switch goes the same way, with the same events, whatever the decoder and the ROT slots
do. -/
def Obligations.SwitchIsIndependentOfTheDecoder : Prop :=
  ∀ s s' : State, s.cfg.legal = true → s'.cfg = s.cfg → SameSwitch s s' →
    s'.nextInput.iw.getLsbD 5 = s.nextInput.iw.getLsbD 5 →
    s'.nextInput.iw.getLsbD 1 = s.nextInput.iw.getLsbD 1 →
    s'.nextInput.iw.getLsbD 0 = s.nextInput.iw.getLsbD 0 → s'.nextInput.now = s.nextInput.now →
    ∃ t t', step s = .next t ∧ step s' = .next t' ∧ SameSwitch t t' ∧ t'.out.swEvent = t.out.swEvent

/-- R21, R118: the decoder's state and `dir` do not depend on the switch, the SW slot, `now` or the
configuration: they go on while rotation is suppressed. -/
def Obligations.DecoderIsIndependentOfTheSwitch : Prop :=
  ∀ s s' : State, s.cfg.legal = true → s'.cfg.legal = true → s'.currentState = s.currentState →
    s'.nextInput.iw.extractLsb' 2 4 = s.nextInput.iw.extractLsb' 2 4 →
    ∃ t t', step s = .next t ∧ step s' = .next t' ∧ t'.currentState = t.currentState
      ∧ t'.out.dir = t.out.dir

/-- R119: a device without a switch ignores the SW slot, keeps its switch fields, delivers no switch
event, and every rotation event carries `active_name`, whatever `SHIFT_EN` is. -/
def Obligations.PureRotaryDeviceIgnoresTheSwitch : Prop :=
  ∀ s : State, s.cfg.legal = true → s.cfg.swPresent = false → s.isPressed = false →
    ∃ t, step s = .next t ∧ t.isPressed = false ∧ SwPortShows t false false 0b00 ∧
      (s.nextInput.iw.getLsbD 5 = false → SameSwitch s t) ∧
      (t.out.bits.dir ≠ 0b00 → RotPortShows t true false t.out.bits.dir)

/-- R46, R47, R48: the callback calls carry the configured names, the Direction and the payload. -/
def Obligations.CallbacksCarryTheConfiguredNames : Prop :=
  (∀ (clk dt : Bool) (s : State), ∃ t, exec (rotOp clk dt) s = .next t ∧
    t.rotCallback = (if t.out.dir = .none then none
      else if (s.cfg.swPresent && s.isPressed) = false then some (s.cfg.nameRotActive, t.out.dir)
      else if s.cfg.shiftEn = true then some (s.cfg.nameRotShifted, t.out.dir) else none)) ∧
  (∀ (l : Bool) (now : Nat) (s : State), ∃ t, exec (swOp l now) s = .next t ∧
    (t.out.bits.swEvKind = 0b00 → t.swCallback = none) ∧
    (t.out.bits.swEvKind = 0b01 → t.swCallback = some (s.cfg.nameSwNormal, .level true)) ∧
    (t.out.bits.swEvKind = 0b10 → t.swCallback = some (s.cfg.nameSwNormal, .level false)) ∧
    (t.out.bits.swEvKind = 0b11 → t.swCallback = some (s.cfg.nameSwLong, .longPress)))

/-! ## The invariant -/

/-- R20 (I3 to I5), R10, R52, R119: from every state that meets it, a step answers a state that meets
it. -/
def Obligations.EveryStepKeepsTheStateConsistent : Prop :=
  ∀ s : State, Consistent s → ∃ t, step s = .next t ∧ Consistent t

/-- R20, R28: the state after reset meets the invariant. -/
def Obligations.StateAfterResetIsConsistent : Prop := Consistent State.reset
end

