-- ==== Sys2Proof/Laws/Decode.lean ====
section
/-! SUPPORT. Small facts about the decoder and the encoder. -/

namespace Sys2Proof

/-- A word with bit 5 set is RESET, whatever its other bits are. -/
theorem decodeWord_of_rst {iw : StepWord} (h : iw.getLsbD 5 = true) (now : Nat) :
    decodeWord iw now = [.reset] := by
  simp only [decodeWord, h, if_true]

/-- A word with bit 5 clear is a ROT operation and then a SW operation. -/
theorem decodeWord_of_not_rst {iw : StepWord} (h : iw.getLsbD 5 = false) (now : Nat) :
    decodeWord iw now = [decodeRotSlot iw, decodeSwSlot iw now] := by
  simp only [decodeWord, h, Bool.false_eq_true, if_false]

theorem decodeRotSlot_slot (iw : StepWord) : (decodeRotSlot iw).slot = some .rot := by
  unfold decodeRotSlot
  cases iw.getLsbD 4 <;> cases iw.getLsbD 3 <;> cases iw.getLsbD 2 <;> rfl

theorem decodeSwSlot_slot (iw : StepWord) (now : Nat) :
    (decodeSwSlot iw now).slot = some .sw := by
  unfold decodeSwSlot
  cases iw.getLsbD 1 <;> cases iw.getLsbD 0 <;> rfl

/-- Bytes and the number they write agree. -/
theorem natOfBytes_bytesOfNat (n w : Nat) (h : w < 256 ^ n) : natOfBytes (bytesOfNat n w) = w := by
  induction n generalizing w with
  | zero => simp_all [natOfBytes, bytesOfNat]
  | succ n ih =>
    have hw : w / 256 < 256 ^ n := by
      rw [Nat.div_lt_iff_lt_mul (by omega)]; rw [Nat.pow_succ] at h; exact h
    simp only [natOfBytes, bytesOfNat, ih _ hw, BitVec.toNat_ofNat]
    omega

end Sys2Proof
end

