-- ==== Sys2Proof/Laws/State.lean ====
section
/-! SUPPORT. One lemma per field per update, true by rfl, so that no proof unfolds a record update. -/

namespace Sys2Proof.Machine.State

@[simp] theorem setCurrentState_cfg (s : State) (v : StateNumber) : (s.setCurrentState v).cfg = s.cfg := rfl
@[simp] theorem setCurrentState_currentState (s : State) (v : StateNumber) : (s.setCurrentState v).currentState = v := rfl
@[simp] theorem setCurrentState_isPressed (s : State) (v : StateNumber) : (s.setCurrentState v).isPressed = s.isPressed := rfl
@[simp] theorem setCurrentState_pressStartedAt (s : State) (v : StateNumber) : (s.setCurrentState v).pressStartedAt = s.pressStartedAt := rfl
@[simp] theorem setCurrentState_lastAcceptedAt (s : State) (v : StateNumber) : (s.setCurrentState v).lastAcceptedAt = s.lastAcceptedAt := rfl
@[simp] theorem setCurrentState_lastValid (s : State) (v : StateNumber) : (s.setCurrentState v).lastValid = s.lastValid := rfl
@[simp] theorem setCurrentState_inputs (s : State) (v : StateNumber) : (s.setCurrentState v).inputs = s.inputs := rfl
@[simp] theorem setCurrentState_out (s : State) (v : StateNumber) : (s.setCurrentState v).out = s.out := rfl

@[simp] theorem acceptEdge_cfg (s : State) (now : Nat) : (s.acceptEdge now).cfg = s.cfg := rfl
@[simp] theorem acceptEdge_currentState (s : State) (now : Nat) : (s.acceptEdge now).currentState = s.currentState := rfl
@[simp] theorem acceptEdge_isPressed (s : State) (now : Nat) : (s.acceptEdge now).isPressed = s.isPressed := rfl
@[simp] theorem acceptEdge_pressStartedAt (s : State) (now : Nat) : (s.acceptEdge now).pressStartedAt = s.pressStartedAt := rfl
@[simp] theorem acceptEdge_lastAcceptedAt (s : State) (now : Nat) : (s.acceptEdge now).lastAcceptedAt = now := rfl
@[simp] theorem acceptEdge_lastValid (s : State) (now : Nat) : (s.acceptEdge now).lastValid = true := rfl
@[simp] theorem acceptEdge_inputs (s : State) (now : Nat) : (s.acceptEdge now).inputs = s.inputs := rfl
@[simp] theorem acceptEdge_out (s : State) (now : Nat) : (s.acceptEdge now).out = s.out := rfl

@[simp] theorem beginPress_cfg (s : State) (now : Nat) : (s.beginPress now).cfg = s.cfg := rfl
@[simp] theorem beginPress_currentState (s : State) (now : Nat) : (s.beginPress now).currentState = s.currentState := rfl
@[simp] theorem beginPress_isPressed (s : State) (now : Nat) : (s.beginPress now).isPressed = true := rfl
@[simp] theorem beginPress_pressStartedAt (s : State) (now : Nat) : (s.beginPress now).pressStartedAt = now := rfl
@[simp] theorem beginPress_lastAcceptedAt (s : State) (now : Nat) : (s.beginPress now).lastAcceptedAt = s.lastAcceptedAt := rfl
@[simp] theorem beginPress_lastValid (s : State) (now : Nat) : (s.beginPress now).lastValid = s.lastValid := rfl
@[simp] theorem beginPress_inputs (s : State) (now : Nat) : (s.beginPress now).inputs = s.inputs := rfl
@[simp] theorem beginPress_out (s : State) (now : Nat) : (s.beginPress now).out = s.out := rfl

@[simp] theorem endPress_cfg (s : State) : (s.endPress).cfg = s.cfg := rfl
@[simp] theorem endPress_currentState (s : State) : (s.endPress).currentState = s.currentState := rfl
@[simp] theorem endPress_isPressed (s : State) : (s.endPress).isPressed = false := rfl
@[simp] theorem endPress_pressStartedAt (s : State) : (s.endPress).pressStartedAt = 0 := rfl
@[simp] theorem endPress_lastAcceptedAt (s : State) : (s.endPress).lastAcceptedAt = s.lastAcceptedAt := rfl
@[simp] theorem endPress_lastValid (s : State) : (s.endPress).lastValid = s.lastValid := rfl
@[simp] theorem endPress_inputs (s : State) : (s.endPress).inputs = s.inputs := rfl
@[simp] theorem endPress_out (s : State) : (s.endPress).out = s.out := rfl

@[simp] theorem clearFields_cfg (s : State) : (s.clearFields).cfg = s.cfg := rfl
@[simp] theorem clearFields_currentState (s : State) : (s.clearFields).currentState = 0 := rfl
@[simp] theorem clearFields_isPressed (s : State) : (s.clearFields).isPressed = false := rfl
@[simp] theorem clearFields_pressStartedAt (s : State) : (s.clearFields).pressStartedAt = 0 := rfl
@[simp] theorem clearFields_lastAcceptedAt (s : State) : (s.clearFields).lastAcceptedAt = 0 := rfl
@[simp] theorem clearFields_lastValid (s : State) : (s.clearFields).lastValid = false := rfl
@[simp] theorem clearFields_inputs (s : State) : (s.clearFields).inputs = s.inputs := rfl
@[simp] theorem clearFields_out (s : State) : (s.clearFields).out = s.out := rfl

@[simp] theorem setDir_cfg (s : State) (d : Direction) : (s.setDir d).cfg = s.cfg := rfl
@[simp] theorem setDir_currentState (s : State) (d : Direction) : (s.setDir d).currentState = s.currentState := rfl
@[simp] theorem setDir_isPressed (s : State) (d : Direction) : (s.setDir d).isPressed = s.isPressed := rfl
@[simp] theorem setDir_pressStartedAt (s : State) (d : Direction) : (s.setDir d).pressStartedAt = s.pressStartedAt := rfl
@[simp] theorem setDir_lastAcceptedAt (s : State) (d : Direction) : (s.setDir d).lastAcceptedAt = s.lastAcceptedAt := rfl
@[simp] theorem setDir_lastValid (s : State) (d : Direction) : (s.setDir d).lastValid = s.lastValid := rfl
@[simp] theorem setDir_inputs (s : State) (d : Direction) : (s.setDir d).inputs = s.inputs := rfl
@[simp] theorem setDir_out_dir (s : State) (d : Direction) : (s.setDir d).out.dir = d := rfl
@[simp] theorem setDir_out_rotEvent (s : State) (d : Direction) : (s.setDir d).out.rotEvent = s.out.rotEvent := rfl
@[simp] theorem setDir_out_swEvent (s : State) (d : Direction) : (s.setDir d).out.swEvent = s.out.swEvent := rfl
@[simp] theorem setDir_out_obsState (s : State) (d : Direction) : (s.setDir d).out.obsState = s.out.obsState := rfl
@[simp] theorem setDir_out_obsPressed (s : State) (d : Direction) : (s.setDir d).out.obsPressed = s.out.obsPressed := rfl

@[simp] theorem setRotEvent_cfg (s : State) (e : Option RotEvent) : (s.setRotEvent e).cfg = s.cfg := rfl
@[simp] theorem setRotEvent_currentState (s : State) (e : Option RotEvent) : (s.setRotEvent e).currentState = s.currentState := rfl
@[simp] theorem setRotEvent_isPressed (s : State) (e : Option RotEvent) : (s.setRotEvent e).isPressed = s.isPressed := rfl
@[simp] theorem setRotEvent_pressStartedAt (s : State) (e : Option RotEvent) : (s.setRotEvent e).pressStartedAt = s.pressStartedAt := rfl
@[simp] theorem setRotEvent_lastAcceptedAt (s : State) (e : Option RotEvent) : (s.setRotEvent e).lastAcceptedAt = s.lastAcceptedAt := rfl
@[simp] theorem setRotEvent_lastValid (s : State) (e : Option RotEvent) : (s.setRotEvent e).lastValid = s.lastValid := rfl
@[simp] theorem setRotEvent_inputs (s : State) (e : Option RotEvent) : (s.setRotEvent e).inputs = s.inputs := rfl
@[simp] theorem setRotEvent_out_dir (s : State) (e : Option RotEvent) : (s.setRotEvent e).out.dir = s.out.dir := rfl
@[simp] theorem setRotEvent_out_rotEvent (s : State) (e : Option RotEvent) : (s.setRotEvent e).out.rotEvent = e := rfl
@[simp] theorem setRotEvent_out_swEvent (s : State) (e : Option RotEvent) : (s.setRotEvent e).out.swEvent = s.out.swEvent := rfl
@[simp] theorem setRotEvent_out_obsState (s : State) (e : Option RotEvent) : (s.setRotEvent e).out.obsState = s.out.obsState := rfl
@[simp] theorem setRotEvent_out_obsPressed (s : State) (e : Option RotEvent) : (s.setRotEvent e).out.obsPressed = s.out.obsPressed := rfl

@[simp] theorem setSwEvent_cfg (s : State) (e : Option SwEvent) : (s.setSwEvent e).cfg = s.cfg := rfl
@[simp] theorem setSwEvent_currentState (s : State) (e : Option SwEvent) : (s.setSwEvent e).currentState = s.currentState := rfl
@[simp] theorem setSwEvent_isPressed (s : State) (e : Option SwEvent) : (s.setSwEvent e).isPressed = s.isPressed := rfl
@[simp] theorem setSwEvent_pressStartedAt (s : State) (e : Option SwEvent) : (s.setSwEvent e).pressStartedAt = s.pressStartedAt := rfl
@[simp] theorem setSwEvent_lastAcceptedAt (s : State) (e : Option SwEvent) : (s.setSwEvent e).lastAcceptedAt = s.lastAcceptedAt := rfl
@[simp] theorem setSwEvent_lastValid (s : State) (e : Option SwEvent) : (s.setSwEvent e).lastValid = s.lastValid := rfl
@[simp] theorem setSwEvent_inputs (s : State) (e : Option SwEvent) : (s.setSwEvent e).inputs = s.inputs := rfl
@[simp] theorem setSwEvent_out_dir (s : State) (e : Option SwEvent) : (s.setSwEvent e).out.dir = s.out.dir := rfl
@[simp] theorem setSwEvent_out_rotEvent (s : State) (e : Option SwEvent) : (s.setSwEvent e).out.rotEvent = s.out.rotEvent := rfl
@[simp] theorem setSwEvent_out_swEvent (s : State) (e : Option SwEvent) : (s.setSwEvent e).out.swEvent = e := rfl
@[simp] theorem setSwEvent_out_obsState (s : State) (e : Option SwEvent) : (s.setSwEvent e).out.obsState = s.out.obsState := rfl
@[simp] theorem setSwEvent_out_obsPressed (s : State) (e : Option SwEvent) : (s.setSwEvent e).out.obsPressed = s.out.obsPressed := rfl

@[simp] theorem startCycle_cfg (s : State) : s.startCycle.cfg = s.cfg := rfl
@[simp] theorem startCycle_currentState (s : State) : s.startCycle.currentState = s.currentState := rfl
@[simp] theorem startCycle_isPressed (s : State) : s.startCycle.isPressed = s.isPressed := rfl
@[simp] theorem startCycle_pressStartedAt (s : State) : s.startCycle.pressStartedAt = s.pressStartedAt := rfl
@[simp] theorem startCycle_lastAcceptedAt (s : State) : s.startCycle.lastAcceptedAt = s.lastAcceptedAt := rfl
@[simp] theorem startCycle_lastValid (s : State) : s.startCycle.lastValid = s.lastValid := rfl
@[simp] theorem startCycle_inputs (s : State) : s.startCycle.inputs = s.inputs.tail := rfl
@[simp] theorem startCycle_out_dir (s : State) : s.startCycle.out.dir = .none := rfl
@[simp] theorem startCycle_out_rotEvent (s : State) : s.startCycle.out.rotEvent = none := rfl
@[simp] theorem startCycle_out_swEvent (s : State) : s.startCycle.out.swEvent = none := rfl
@[simp] theorem startCycle_out_obsState (s : State) : s.startCycle.out.obsState = s.currentState := rfl
@[simp] theorem startCycle_out_obsPressed (s : State) : s.startCycle.out.obsPressed = s.atomicReadPressed := rfl

end Sys2Proof.Machine.State
end

