-- ==== Sys2Proof/Laws/Ops.lean ====
section
/-! SUPPORT. For each shared operation, what it can do, said once: the accessors that depend on a few
fields only, the decoder's three classes, the name selection's cases, the SW step's cases, and a cycle. -/

namespace Sys2Proof.Machine

/-! The conditions of the SW step read nothing but the constants and the switch's fields. -/

theorem discards_congr {s t : State} (now : Nat) (hc : t.cfg = s.cfg)
    (hl : t.lastAcceptedAt = s.lastAcceptedAt) (hv : t.lastValid = s.lastValid) :
    t.discards now = s.discards now := by
  unfold State.discards State.elapsed
  rw [hc, hl, hv]

theorem isLongPress_congr {s t : State} (now : Nat) (hc : t.cfg = s.cfg)
    (hp : t.pressStartedAt = s.pressStartedAt) : t.isLongPress now = s.isLongPress now := by
  unfold State.isLongPress State.held
  rw [hc, hp]

theorem indicatesPress_congr {s t : State} (l : Bool) (hc : t.cfg = s.cfg) :
    t.indicatesPress l = s.indicatesPress l := by
  simp only [State.indicatesPress, hc]

theorem atomicReadPressed_congr {s t : State} (hc : t.cfg = s.cfg)
    (hp : t.isPressed = s.isPressed) : t.atomicReadPressed = s.atomicReadPressed := by
  simp only [State.atomicReadPressed, hc, hp]

/-! Timestamps. -/

theorem truncW_lt (w : Nat) (t : Nat) : truncW w t < 2 ^ w :=
  Nat.mod_lt _ (Nat.two_pow_pos w)

theorem truncW_of_lt {w : Nat} {t : Nat} (h : t < 2 ^ w) : truncW w t = t := Nat.mod_eq_of_lt h

theorem subW_truncW (w : Nat) (a b : Nat) : subW w (truncW w a) b = subW w a b := by
  have h : BitVec.ofNat w (truncW w a) = BitVec.ofNat w a := by
    apply BitVec.eq_of_toNat_eq
    simp [truncW]
  simp only [subW, h]

/-- Two times less than 2^w apart have the true difference, whatever their low w bits are. -/
theorem subW_of_true_times {w : Nat} {t₀ t₁ : Nat} (h : t₀ ≤ t₁) (hw : t₁ - t₀ < 2 ^ w) :
    subW w (t₁ % 2 ^ w) (t₀ % 2 ^ w) = t₁ - t₀ := by
  obtain ⟨d, rfl⟩ := Nat.exists_eq_add_of_le h
  have e : BitVec.ofNat w ((t₀ + d) % 2 ^ w) - BitVec.ofNat w (t₀ % 2 ^ w) = BitVec.ofNat w d := by
    have h₁ : BitVec.ofNat w ((t₀ + d) % 2 ^ w) = BitVec.ofNat w t₀ + BitVec.ofNat w d := by
      apply BitVec.eq_of_toNat_eq; simp
    have h₂ : BitVec.ofNat w (t₀ % 2 ^ w) = BitVec.ofNat w t₀ := by
      apply BitVec.eq_of_toNat_eq; simp
    rw [h₁, h₂, BitVec.add_comm, BitVec.add_sub_cancel]
  rw [subW, e]
  simp only [BitVec.toNat_ofNat, Nat.add_sub_cancel_left] at hw ⊢
  exact Nat.mod_eq_of_lt hw

/-! The decoder. -/

/-- What the decoder can do: accept an adjacent reading with its Direction, or keep its state with
none. -/
theorem decoderStep_cases (clk dt : Bool) (s : State) :
    (classify s.currentState (stOf (readingOf clk dt)) = .adjacent ∧
      decoderStep clk dt s = (s.setCurrentState (stOf (readingOf clk dt))).setDir
        (directionOf s.currentState (stOf (readingOf clk dt)))) ∨
    (classify s.currentState (stOf (readingOf clk dt)) ≠ .adjacent ∧
      decoderStep clk dt s = s.setDir .none) := by
  unfold decoderStep
  cases h : classify s.currentState (stOf (readingOf clk dt)) <;> simp_all

/-- A class is adjacent exactly when the two labels differ in one bit. -/
theorem classify_eq_adjacent (a b : StateNumber) :
    classify a b = .adjacent ↔ a ^^^ b = 1 ∨ a ^^^ b = 2 := by
  revert a b; decide

/-- The label of a reading has DT as bit 1 and CLK as bit 0 (R43, R44). -/
theorem stOf_readingOf (clk dt : Bool) :
    (stOf (readingOf clk dt)).getLsbD 0 = clk ∧ (stOf (readingOf clk dt)).getLsbD 1 = dt := by
  revert clk dt; decide

/-! The name selection. -/

/-- What the name selection can do, on the `dir` before it. -/
theorem muxStep_cases (s : State) :
    (s.out.dir = .none ∧ muxStep s = s.setRotEvent none) ∨
    (s.out.dir ≠ .none ∧ s.atomicReadPressed = false ∧
      muxStep s = s.setRotEvent (some { name := .active, dir := s.out.dir })) ∨
    (s.out.dir ≠ .none ∧ s.atomicReadPressed = true ∧ s.cfg.shiftEn = true ∧
      muxStep s = s.setRotEvent (some { name := .shifted, dir := s.out.dir })) ∨
    (s.out.dir ≠ .none ∧ s.atomicReadPressed = true ∧ s.cfg.shiftEn = false ∧
      muxStep s = s.setRotEvent none) := by
  unfold muxStep
  by_cases hd : s.out.dir = .none
  · simp [hd]
  · cases hp : s.atomicReadPressed <;> cases hs : s.cfg.shiftEn <;> simp [hd]

/-- The name selection only writes the rotation event port. -/
theorem muxStep_eq_setRotEvent (s : State) : ∃ e, muxStep s = s.setRotEvent e := by
  rcases muxStep_cases s with ⟨_, h⟩ | ⟨_, _, h⟩ | ⟨_, _, _, h⟩ | ⟨_, _, _, h⟩ <;> exact ⟨_, h⟩

/-! The SW step. -/

/-- What the SW step can do. -/
theorem switchStep_cases (l : Bool) (p : Nat) (s : State) :
    (s.cfg.swPresent = false ∧ switchStep l p s = s.setSwEvent none) ∨
    (s.cfg.swPresent = true ∧ s.discards (truncW s.cfg.tsWidth p) = true ∧
      switchStep l p s = discardEdge s) ∨
    (s.cfg.swPresent = true ∧ s.discards (truncW s.cfg.tsWidth p) = false ∧
      s.indicatesPress l = true ∧ s.isPressed = false ∧
      switchStep l p s = pressEdge (truncW s.cfg.tsWidth p) s) ∨
    (s.cfg.swPresent = true ∧ s.discards (truncW s.cfg.tsWidth p) = false ∧
      s.indicatesPress l = false ∧ s.isPressed = true ∧
      s.isLongPress (truncW s.cfg.tsWidth p) = true ∧
      switchStep l p s =
        releaseEdge (truncW s.cfg.tsWidth p) { name := .long, kind := .longPressed } s) ∨
    (s.cfg.swPresent = true ∧ s.discards (truncW s.cfg.tsWidth p) = false ∧
      s.indicatesPress l = false ∧ s.isPressed = true ∧
      s.isLongPress (truncW s.cfg.tsWidth p) = false ∧
      switchStep l p s =
        releaseEdge (truncW s.cfg.tsWidth p) { name := .normal, kind := .released } s) ∨
    (s.cfg.swPresent = true ∧ s.discards (truncW s.cfg.tsWidth p) = false ∧
      s.indicatesPress l = s.isPressed ∧
      switchStep l p s = refreshEdge (truncW s.cfg.tsWidth p) s) := by
  simp only [switchStep]
  cases s.cfg.swPresent <;> cases s.discards (truncW s.cfg.tsWidth p) <;>
    cases s.indicatesPress l <;> cases s.isPressed <;>
    cases s.isLongPress (truncW s.cfg.tsWidth p) <;> simp

/-! A cycle. -/

theorem step_of_legal {s : State} (h : s.cfg.legal = true) :
    step s = runOps (decodeWord s.nextInput.iw s.nextInput.now) s.startCycle := by
  simp [step, h]

theorem runOps_one {i : Instr} {s t : State} (h : exec i s = .next t) : runOps [i] s = .next t := by
  simp [runOps, h]

theorem runOps_two {i j : Instr} {s t : State} (h : exec i s = .next t) :
    runOps [i, j] s = exec j t := by
  cases hj : exec j t <;> simp [runOps, h, hj]

end Sys2Proof.Machine
end

