-- ==== Sys2Proof/Laws/PerInstr.lean ====
section
/-! SUPPORT. The family EncodeFitsRow: the encoded word of every operation lies in the set its row of the
opcode table gives it by mask and match. One lemma per constructor. -/

namespace Sys2Proof.Laws.EncodeFitsRow

/-- The canonical word of i is one its row's mask and match admit (R41, R49). -/
def Statement (i : Instr) : Prop := encode i &&& rowMask i = rowMatch i

theorem reset : Statement .reset := by unfold Statement; decide

theorem rotNop : Statement .rotNop := by unfold Statement; decide

theorem rot00 : Statement .rot00 := by unfold Statement; decide

theorem rot01 : Statement .rot01 := by unfold Statement; decide

theorem rot10 : Statement .rot10 := by unfold Statement; decide

theorem rot11 : Statement .rot11 := by unfold Statement; decide

theorem swNop : Statement .swNop := by unfold Statement; decide

theorem swL0 (now : Nat) : Statement (.swL0 now) := by
  simp only [Statement, encode, rowMask, rowMatch]; decide

theorem swL1 (now : Nat) : Statement (.swL1 now) := by
  simp only [Statement, encode, rowMask, rowMatch]; decide

theorem qdt00 : Statement .qdt00 := by unfold Statement; decide

theorem qdt01 : Statement .qdt01 := by unfold Statement; decide

theorem qdt02 : Statement .qdt02 := by unfold Statement; decide

theorem qdt03 : Statement .qdt03 := by unfold Statement; decide

theorem qdt10 : Statement .qdt10 := by unfold Statement; decide

theorem qdt11 : Statement .qdt11 := by unfold Statement; decide

theorem qdt12 : Statement .qdt12 := by unfold Statement; decide

theorem qdt13 : Statement .qdt13 := by unfold Statement; decide

theorem qdt20 : Statement .qdt20 := by unfold Statement; decide

theorem qdt21 : Statement .qdt21 := by unfold Statement; decide

theorem qdt22 : Statement .qdt22 := by unfold Statement; decide

theorem qdt23 : Statement .qdt23 := by unfold Statement; decide

theorem qdt30 : Statement .qdt30 := by unfold Statement; decide

theorem qdt31 : Statement .qdt31 := by unfold Statement; decide

theorem qdt32 : Statement .qdt32 := by unfold Statement; decide

theorem qdt33 : Statement .qdt33 := by unfold Statement; decide

theorem swDiscard (rawLevel : Bool) (now : Nat) : Statement (.swDiscard rawLevel now) := by
  cases rawLevel <;> simp only [Statement, encode, rowMask, rowMatch] <;> decide

theorem swPress (rawLevel : Bool) (now : Nat) : Statement (.swPress rawLevel now) := by
  cases rawLevel <;> simp only [Statement, encode, rowMask, rowMatch] <;> decide

theorem swRelease (rawLevel : Bool) (now : Nat) : Statement (.swRelease rawLevel now) := by
  cases rawLevel <;> simp only [Statement, encode, rowMask, rowMatch] <;> decide

theorem swLong (rawLevel : Bool) (now : Nat) : Statement (.swLong rawLevel now) := by
  cases rawLevel <;> simp only [Statement, encode, rowMask, rowMatch] <;> decide

theorem swRefresh (rawLevel : Bool) (now : Nat) : Statement (.swRefresh rawLevel now) := by
  cases rawLevel <;> simp only [Statement, encode, rowMask, rowMatch] <;> decide

theorem muxActive : Statement .muxActive := by unfold Statement; decide

theorem muxShifted : Statement .muxShifted := by unfold Statement; decide

theorem muxSuppress : Statement .muxSuppress := by unfold Statement; decide

theorem muxNone : Statement .muxNone := by unfold Statement; decide

end Sys2Proof.Laws.EncodeFitsRow
end

