-- ==== Sys2Proof/Laws/Rows.lean ====
section
/-! SUPPORT. The slots of a cycle as functions of the state, the frame of each, and what the conditions
of the claims say of the machine's own. -/

namespace Sys2Proof.Machine

open Sys2Proof.Safety

/-! ## The slots of a word -/

/-- What the ROT slot of a word does. -/
def rotSlotStep (iw : StepWord) (s : State) : State :=
  if iw.getLsbD 4 then rotStep (iw.getLsbD 3) (iw.getLsbD 2) s
  else (s.setDir .none).setRotEvent none

/-- What the SW slot of a word does. -/
def swSlotStep (iw : StepWord) (now : Nat) (s : State) : State :=
  if iw.getLsbD 1 then switchStep (iw.getLsbD 0) now s else s.setSwEvent none

/-- What a RESET step does. -/
def resetStep (s : State) : State :=
  ((s.clearFields.setDir .none).setRotEvent none).setSwEvent none

/-- What a whole cycle does with a word. -/
def cycleStep (iw : StepWord) (now : Nat) (s : State) : State :=
  if iw.getLsbD 5 then resetStep s else swSlotStep iw now (rotSlotStep iw s)

theorem exec_rotOp (clk dt : Bool) (s : State) : exec (rotOp clk dt) s = .next (rotStep clk dt s) := by
  cases clk <;> cases dt <;> rfl

theorem exec_swOp (l : Bool) (now : Nat) (s : State) :
    exec (swOp l now) s = .next (switchStep l now s) := by
  cases l <;> rfl

theorem decodeRotSlot_eq (iw : StepWord) :
    decodeRotSlot iw = if iw.getLsbD 4 then rotOp (iw.getLsbD 3) (iw.getLsbD 2) else .rotNop := by
  unfold decodeRotSlot
  cases iw.getLsbD 4 <;> cases iw.getLsbD 3 <;> cases iw.getLsbD 2 <;> rfl

theorem decodeSwSlot_eq (iw : StepWord) (now : Nat) :
    decodeSwSlot iw now = if iw.getLsbD 1 then swOp (iw.getLsbD 0) now else .swNop := by
  unfold decodeSwSlot
  cases iw.getLsbD 1 <;> cases iw.getLsbD 0 <;> rfl

theorem exec_decodeRotSlot (iw : StepWord) (s : State) :
    exec (decodeRotSlot iw) s = .next (rotSlotStep iw s) := by
  rw [decodeRotSlot_eq, rotSlotStep]
  split
  · exact exec_rotOp _ _ s
  · rfl

theorem exec_decodeSwSlot (iw : StepWord) (now : Nat) (s : State) :
    exec (decodeSwSlot iw now) s = .next (swSlotStep iw now s) := by
  rw [decodeSwSlot_eq, swSlotStep]
  split
  · exact exec_swOp _ _ s
  · rfl

theorem runOps_decodeWord (iw : StepWord) (now : Nat) (s : State) :
    runOps (decodeWord iw now) s = .next (cycleStep iw now s) := by
  unfold cycleStep
  cases h : iw.getLsbD 5
  · rw [decodeWord_of_not_rst h, runOps_two (exec_decodeRotSlot iw s), exec_decodeSwSlot]
    simp
  · rw [decodeWord_of_rst h]
    rfl

/-- A step of a legal configuration, as one function of the state. -/
theorem step_eq_cycleStep {s : State} (h : s.cfg.legal = true) :
    step s = .next (cycleStep s.nextInput.iw s.nextInput.now s.startCycle) := by
  rw [step_of_legal h, runOps_decodeWord]

/-! ## The decoder and the name selection -/

@[simp] theorem muxStep_cfg (s : State) : (muxStep s).cfg = s.cfg := by
  obtain ⟨e, h⟩ := muxStep_eq_setRotEvent s; simp [h]
@[simp] theorem muxStep_currentState (s : State) : (muxStep s).currentState = s.currentState := by
  obtain ⟨e, h⟩ := muxStep_eq_setRotEvent s; simp [h]
@[simp] theorem muxStep_isPressed (s : State) : (muxStep s).isPressed = s.isPressed := by
  obtain ⟨e, h⟩ := muxStep_eq_setRotEvent s; simp [h]
@[simp] theorem muxStep_pressStartedAt (s : State) :
    (muxStep s).pressStartedAt = s.pressStartedAt := by
  obtain ⟨e, h⟩ := muxStep_eq_setRotEvent s; simp [h]
@[simp] theorem muxStep_lastAcceptedAt (s : State) :
    (muxStep s).lastAcceptedAt = s.lastAcceptedAt := by
  obtain ⟨e, h⟩ := muxStep_eq_setRotEvent s; simp [h]
@[simp] theorem muxStep_lastValid (s : State) : (muxStep s).lastValid = s.lastValid := by
  obtain ⟨e, h⟩ := muxStep_eq_setRotEvent s; simp [h]
@[simp] theorem muxStep_inputs (s : State) : (muxStep s).inputs = s.inputs := by
  obtain ⟨e, h⟩ := muxStep_eq_setRotEvent s; simp [h]
@[simp] theorem muxStep_out_dir (s : State) : (muxStep s).out.dir = s.out.dir := by
  obtain ⟨e, h⟩ := muxStep_eq_setRotEvent s; simp [h]
@[simp] theorem muxStep_out_swEvent (s : State) : (muxStep s).out.swEvent = s.out.swEvent := by
  obtain ⟨e, h⟩ := muxStep_eq_setRotEvent s; simp [h]
@[simp] theorem muxStep_out_obsState (s : State) : (muxStep s).out.obsState = s.out.obsState := by
  obtain ⟨e, h⟩ := muxStep_eq_setRotEvent s; simp [h]
@[simp] theorem muxStep_out_obsPressed (s : State) :
    (muxStep s).out.obsPressed = s.out.obsPressed := by
  obtain ⟨e, h⟩ := muxStep_eq_setRotEvent s; simp [h]

/-- The state and Direction after the decoder, from the state before and the pair. -/
theorem decoderStep_eq (clk dt : Bool) (s : State) :
    decoderStep clk dt s =
      if oneLineDiffers s.currentState clk dt then
        (s.setCurrentState (stateOfPair clk dt)).setDir
          (if clk = false ∧ dt = false then
            (if s.currentState = 2 then .clockwise else .counterClockwise) else .none)
      else s.setDir .none := by
  have key : ∀ (v : StateNumber) (clk dt : Bool),
      (classify v (stOf (readingOf clk dt)) = .adjacent ↔ oneLineDiffers v clk dt = true) ∧
      stOf (readingOf clk dt) = stateOfPair clk dt ∧
      (oneLineDiffers v clk dt = true → directionOf v (stOf (readingOf clk dt)) =
        if clk = false ∧ dt = false then (if v = 2 then .clockwise else .counterClockwise)
        else .none) := by decide
  obtain ⟨h₁, h₂, h₃⟩ := key s.currentState clk dt
  rcases decoderStep_cases clk dt s with ⟨ha, h⟩ | ⟨ha, h⟩
  · rw [h, if_pos (h₁.mp ha), h₃ (h₁.mp ha), h₂]
  · rw [h, if_neg (fun hc => ha (h₁.mpr hc))]

/-- The decoder writes its state and `dir` and nothing else. -/
theorem decoderStep_shape (clk dt : Bool) (s : State) :
    ∃ v d, decoderStep clk dt s = (s.setCurrentState v).setDir d := by
  rcases decoderStep_cases clk dt s with ⟨_, h⟩ | ⟨_, h⟩
  · exact ⟨_, _, h⟩
  · exact ⟨s.currentState, .none, h⟩

/-- The ROT slot writes the decoder's state and its own ports and nothing else. -/
theorem rotSlotStep_shape (iw : StepWord) (s : State) :
    ∃ v d e, rotSlotStep iw s = ((s.setCurrentState v).setDir d).setRotEvent e := by
  unfold rotSlotStep
  split
  · obtain ⟨v, d, h⟩ := decoderStep_shape (iw.getLsbD 3) (iw.getLsbD 2) s
    obtain ⟨e, he⟩ := muxStep_eq_setRotEvent (decoderStep (iw.getLsbD 3) (iw.getLsbD 2) s)
    exact ⟨v, d, e, by rw [rotStep, he, h]⟩
  · exact ⟨s.currentState, .none, none, rfl⟩

/-- The same of one ROT step. -/
theorem rotStep_shape (clk dt : Bool) (s : State) :
    ∃ v d e, rotStep clk dt s = ((s.setCurrentState v).setDir d).setRotEvent e := by
  obtain ⟨v, d, h⟩ := decoderStep_shape clk dt s
  obtain ⟨e, he⟩ := muxStep_eq_setRotEvent (decoderStep clk dt s)
  exact ⟨v, d, e, by rw [rotStep, he, h]⟩

theorem rotStep_currentState (clk dt : Bool) (s : State) :
    (rotStep clk dt s).currentState =
      if oneLineDiffers s.currentState clk dt then stateOfPair clk dt else s.currentState := by
  rw [rotStep, muxStep_currentState, decoderStep_eq]
  split <;> simp

theorem rotStep_dir (clk dt : Bool) (s : State) :
    (rotStep clk dt s).out.dir =
      if oneLineDiffers s.currentState clk dt = true ∧ clk = false ∧ dt = false then
        (if s.currentState = 2 then .clockwise else .counterClockwise) else .none := by
  rw [rotStep, muxStep_out_dir, decoderStep_eq]
  cases oneLineDiffers s.currentState clk dt <;> simp

theorem rotStep_rotEvent (clk dt : Bool) (s : State) :
    (rotStep clk dt s).out.rotEvent =
      if (rotStep clk dt s).out.dir = .none then none
      else if s.atomicReadPressed = false then
        some { name := .active, dir := (rotStep clk dt s).out.dir }
      else if s.cfg.shiftEn = true then some { name := .shifted, dir := (rotStep clk dt s).out.dir }
      else none := by
  obtain ⟨v, d, h⟩ := decoderStep_shape clk dt s
  have hp : (decoderStep clk dt s).atomicReadPressed = s.atomicReadPressed :=
    atomicReadPressed_congr (by simp [h]) (by simp [h])
  have hc : (decoderStep clk dt s).cfg = s.cfg := by simp [h]
  simp only [rotStep, muxStep_out_dir]
  rcases muxStep_cases (decoderStep clk dt s) with
    ⟨h₁, h₂⟩ | ⟨h₁, h₂, h₃⟩ | ⟨h₁, h₂, h₃, h₄⟩ | ⟨h₁, h₂, h₃, h₄⟩ <;>
    simp_all

/-! ## The switch -/

/-- The SW step writes the switch fields and its own port and nothing else. -/
theorem switchStep_shape (l : Bool) (p : Nat) (s : State) :
    ∃ q a b v e, switchStep l p s =
      ({ s with isPressed := q, pressStartedAt := a, lastAcceptedAt := b, lastValid := v }
        : State).setSwEvent e := by
  rcases switchStep_cases l p s with ⟨_, h⟩ | ⟨_, _, h⟩ | ⟨_, _, _, _, h⟩ | ⟨_, _, _, _, _, h⟩ |
    ⟨_, _, _, _, _, h⟩ | ⟨_, _, _, h⟩ <;> exact ⟨_, _, _, _, _, h⟩

/-- The same of the SW slot. -/
theorem swSlotStep_shape (iw : StepWord) (now : Nat) (s : State) :
    ∃ q a b v e, swSlotStep iw now s =
      ({ s with isPressed := q, pressStartedAt := a, lastAcceptedAt := b, lastValid := v }
        : State).setSwEvent e := by
  unfold swSlotStep
  split
  · exact switchStep_shape _ _ s
  · exact ⟨_, _, _, _, _, rfl⟩

/-- The machine's window test is the claims' own. -/
theorem discards_eq_true {s : State} {now : Nat} :
    s.discards (truncW s.cfg.tsWidth now) = true ↔ InsideWindow s now := by
  rw [State.discards, State.elapsed, subW_truncW, Bool.and_eq_true, decide_eq_true_eq]
  exact Iff.rfl

theorem discards_eq_false {s : State} {now : Nat} :
    s.discards (truncW s.cfg.tsWidth now) = false ↔ OutsideWindow s now := by
  rw [← Bool.not_eq_true, discards_eq_true]
  simp only [InsideWindow, OutsideWindow]
  cases s.lastValid <;> simp

theorem isLongPress_eq_true {s : State} {now : Nat} :
    s.isLongPress (truncW s.cfg.tsWidth now) = true ↔ IsLong s now := by
  rw [State.isLongPress, State.held, subW_truncW, Bool.and_eq_true, decide_eq_true_eq]
  exact Iff.rfl

theorem isLongPress_eq_false {s : State} {now : Nat} :
    s.isLongPress (truncW s.cfg.tsWidth now) = false ↔ ¬ IsLong s now := by
  rw [← Bool.not_eq_true, isLongPress_eq_true]

theorem indicatesPress_eq_true {s : State} {l : Bool} :
    s.indicatesPress l = true ↔ l = s.cfg.pressLevel := by
  simp [State.indicatesPress]

theorem indicatesPress_eq_false {s : State} {l : Bool} :
    s.indicatesPress l = false ↔ l ≠ s.cfg.pressLevel := by
  simp [State.indicatesPress]

/-- The truncation of the port is the low W bits the claims write. -/
theorem truncW_eq_portNow (s : State) (now : Nat) :
    truncW s.cfg.tsWidth now = portNow s now := rfl

theorem switchStep_discard {l : Bool} {now : Nat} {s : State} (hs : s.cfg.swPresent = true)
    (ho : InsideWindow s now) : switchStep l now s = s.setSwEvent none := by
  have h := discards_eq_true.mpr ho
  simp [switchStep, hs, h, discardEdge]

theorem switchStep_press {l : Bool} {now : Nat} {s : State} (hs : s.cfg.swPresent = true)
    (ho : OutsideWindow s now) (hl : l = s.cfg.pressLevel) (hp : s.isPressed = false) :
    switchStep l now s = pressEdge (portNow s now) s := by
  have h : s.discards (portNow s now) = false := discards_eq_false.mpr ho
  have hi := indicatesPress_eq_true.mpr hl
  simp [switchStep, hs, h, hi, hp, truncW_eq_portNow]

theorem switchStep_long {l : Bool} {now : Nat} {s : State} (hs : s.cfg.swPresent = true)
    (ho : OutsideWindow s now) (hl : l ≠ s.cfg.pressLevel) (hp : s.isPressed = true)
    (hg : IsLong s now) :
    switchStep l now s = releaseEdge (portNow s now) { name := .long, kind := .longPressed } s := by
  have h : s.discards (portNow s now) = false := discards_eq_false.mpr ho
  have hi := indicatesPress_eq_false.mpr hl
  have hg : s.isLongPress (portNow s now) = true := isLongPress_eq_true.mpr hg
  simp [switchStep, hs, h, hi, hp, hg, truncW_eq_portNow]

theorem switchStep_release {l : Bool} {now : Nat} {s : State} (hs : s.cfg.swPresent = true)
    (ho : OutsideWindow s now) (hl : l ≠ s.cfg.pressLevel) (hp : s.isPressed = true)
    (hg : ¬ IsLong s now) :
    switchStep l now s = releaseEdge (portNow s now) { name := .normal, kind := .released } s := by
  have h : s.discards (portNow s now) = false := discards_eq_false.mpr ho
  have hi := indicatesPress_eq_false.mpr hl
  have hg : s.isLongPress (portNow s now) = false := isLongPress_eq_false.mpr hg
  simp [switchStep, hs, h, hi, hp, hg, truncW_eq_portNow]

theorem switchStep_refresh {l : Bool} {now : Nat} {s : State} (hs : s.cfg.swPresent = true)
    (ho : OutsideWindow s now) (hl : l = s.cfg.pressLevel ↔ s.isPressed = true) :
    switchStep l now s = refreshEdge (portNow s now) s := by
  have h : s.discards (portNow s now) = false := discards_eq_false.mpr ho
  have hi := indicatesPress_eq_true (s := s) (l := l)
  cases hp : s.isPressed <;> cases hq : s.indicatesPress l <;>
    simp_all [switchStep, truncW_eq_portNow]

/-- Two states with the same constants and switch fields take the SW slot to the same switch fields and
the same event. -/
theorem swSlotStep_congr {s t : State} (iw : StepWord) (now : Nat) (hc : t.cfg = s.cfg)
    (h : SameSwitch s t) :
    SameSwitch (swSlotStep iw now s) (swSlotStep iw now t) ∧
      (swSlotStep iw now t).out.swEvent = (swSlotStep iw now s).out.swEvent := by
  obtain ⟨hp, ha, hl, hv⟩ := h
  have hd := discards_congr (s := s) (t := t) (truncW s.cfg.tsWidth now) hc hl hv
  have hi := indicatesPress_congr (s := s) (t := t) (iw.getLsbD 0) hc
  have hg := isLongPress_congr (s := s) (t := t) (truncW s.cfg.tsWidth now) hc ha
  unfold swSlotStep SameSwitch
  cases iw.getLsbD 1
  · simp [hp, ha, hl, hv]
  · simp only [if_true, switchStep, hc, hd, hi, hg, hp]
    split
    · simp [hp, ha, hl, hv]
    split
    · simp [discardEdge, hp, ha, hl, hv]
    split
    · simp [pressEdge]
    split
    · split <;> simp [releaseEdge]
    · simp [refreshEdge, hp, ha]

end Sys2Proof.Machine
end

