-- ==== Sys2Proof/Tests/Slice0.lean ====
section
/-! SUPPORT. Tests: the well-formedness checks refuse ill-formed terms, words written out from the spec's
encoding tables decode to what they stand for, the vectors of spec/95_test_vectors.md (named V-…, P…),
and for every statement with hypotheses a state and operands that meet them all. -/

namespace Sys2Proof.Tests

open Sys2Proof.Machine Sys2Proof.Safety

/-! ## Helpers -/

/-- The configuration of program P2: long press and shifted name configured. -/
def combined : Config :=
  { Config.conventional with lpEn := true, lpThreshold := 1000, shiftEn := true }

/-- The configuration of V-S12 and program P5: 8-bit timestamps. -/
def narrow : Config :=
  { Config.conventional with tsWidth := 8, debounceWindow := 10, lpEn := true, lpThreshold := 50 }

/-- A pure rotary device with a shifted name configured (V-M6). -/
def rotary : Config := { Config.conventional with swPresent := false, shiftEn := true }

/-- The state written `(cs, ip, psa, laa, lv)` in spec/95_test_vectors.md. -/
def mkState (c : Config) (cs : StateNumber) (ip : Bool) (psa laa : Nat) (lv : Bool) : State :=
  { State.reset with cfg := c, currentState := cs, isPressed := ip, pressStartedAt := psa,
                     lastAcceptedAt := laa, lastValid := lv }

/-- s with the given cycles to come. -/
def presents (s : State) (cs : List InputCycle) : State := { s with inputs := cs }

/-- s with `dir` as its decoder has just given it. -/
def showing (s : State) (d : Direction) : State := { s with out := { s.out with dir := d } }

/-- The five fields of R10, `(cs, ip, psa, laa, lv)`. -/
structure Fields where
  cs : StateNumber
  ip : Bool
  psa : Nat
  laa : Nat
  lv : Bool
  deriving DecidableEq, Repr

def fields (s : State) : Fields :=
  ⟨s.currentState, s.isPressed, s.pressStartedAt, s.lastAcceptedAt, s.lastValid⟩

/-- The next state, if there is one. -/
def nextOf : Host.Outcome State Fault Refusal → Option State
  | .next t => some t
  | .fault _ => none
  | .refused _ => none

/-- The state after one cycle with a word and a `now`. -/
def cycle (iw : StepWord) (now : Nat) (s : State) : Option State :=
  nextOf (step (presents s [⟨iw, now⟩]))

def rotActive (d : Direction) : Option RotEvent := some { name := .active, dir := d }

def rotShifted (d : Direction) : Option RotEvent := some { name := .shifted, dir := d }

def swNormal (k : SwitchEvent) : Option SwEvent := some { name := .normal, kind := k }

def swLongPress : Option SwEvent := some { name := .long, kind := .longPressed }

/-! ## Well-formedness: each check refuses an ill-formed term -/

theorem test_wf_refuses_width_zero :
    ({ Config.conventional with tsWidth := 0, debounceWindow := 0 } : Config).legal = false := by
  decide

theorem test_wf_refuses_window_of_256_in_8_bits :
    ({ narrow with debounceWindow := 256 } : Config).legal = false := by decide

theorem test_wf_refuses_threshold_of_256_in_8_bits :
    ({ narrow with lpThreshold := 256 } : Config).legal = false := by decide

theorem test_wf_admits_the_widest_durations :
    ({ narrow with debounceWindow := 255, lpThreshold := 255 } : Config).legal = true := by decide

theorem test_wf_refuses_a_now_wider_than_the_port :
    fitsWidth 8 256 = false ∧ (Instr.swL1 256).wf 8 = false ∧ (Instr.swPress true 256).wf 8 = false
      ∧ (⟨0x03, 256⟩ : InputCycle).wf 8 = false := by decide

theorem test_wf_refuses_misplaced_slots :
    cycleWf 8 [] = false ∧ cycleWf 8 [.rot00] = false ∧ cycleWf 8 [.reset, .swNop] = false
      ∧ cycleWf 8 [.swNop, .rot00] = false ∧ cycleWf 8 [.rot00, .rot01] = false
      ∧ cycleWf 8 [.rot00, .swL0 256] = false ∧ cycleWf 8 [.qdt00] = false
      ∧ cycleWf 8 [.rot00, .swPress true 0] = false
      ∧ cycleWf 8 [.rot00, .swL0 0, .swL0 0] = false := by decide

theorem test_step_refuses_an_illegal_configuration :
    step { State.reset with cfg := { narrow with debounceWindow := 256 } }
      = .refused .illegalConfiguration := rfl

/-! ## Decoding: words written out bit by bit from R41 and R53, indices from R49 -/

theorem test_decode_reset : decodeWord 0b100000 0 = [.reset] := by decide

theorem test_decode_reset_ignores_all_other_bits : decodeWord 0b111111 999 = [.reset] := by decide

theorem test_decode_idle : decodeWord 0b000000 0 = [.rotNop, .swNop] := by decide

theorem test_decode_rot_words :
    decodeWord 0b010000 0 = [.rot00, .swNop] ∧ decodeWord 0b010100 0 = [.rot01, .swNop]
      ∧ decodeWord 0b011000 0 = [.rot10, .swNop] ∧ decodeWord 0b011100 0 = [.rot11, .swNop] := by
  decide

theorem test_decode_sw_words :
    decodeWord 0b000010 130 = [.rotNop, .swL0 130] ∧ decodeWord 0b000011 7 = [.rotNop, .swL1 7] := by
  decide

/-- P4 writes `ROT 01 || SW.L0 130` as 0x16; R53 writes `ROT 10 || SW.L1 now` as 0x1B. -/
theorem test_decode_two_slots :
    decodeWord 0b010110 130 = [.rot01, .swL0 130] ∧ decodeWord 0b011011 5 = [.rot10, .swL1 5] := by
  decide

/-- V-R5. -/
theorem test_decode_ignores_levels_without_strobe :
    decodeWord 0b001100 0 = [.rotNop, .swNop] ∧ decodeWord 0b000001 3 = [.rotNop, .swNop]
      ∧ decodeWord 0b001111 9 = [.rotNop, .swL1 9] := by decide

theorem test_decode_cells :
    decodeCell 0b0000 = .qdt00 ∧ decodeCell 0b0001 = .qdt01 ∧ decodeCell 0b0010 = .qdt02
      ∧ decodeCell 0b0011 = .qdt03 ∧ decodeCell 0b0100 = .qdt10 ∧ decodeCell 0b0101 = .qdt11
      ∧ decodeCell 0b0110 = .qdt12 ∧ decodeCell 0b0111 = .qdt13 ∧ decodeCell 0b1000 = .qdt20
      ∧ decodeCell 0b1001 = .qdt21 ∧ decodeCell 0b1010 = .qdt22 ∧ decodeCell 0b1011 = .qdt23
      ∧ decodeCell 0b1100 = .qdt30 ∧ decodeCell 0b1101 = .qdt31 ∧ decodeCell 0b1110 = .qdt32
      ∧ decodeCell 0b1111 = .qdt33 := by decide

theorem test_decode_bytes :
    decodeBytes [0x03, 0x10, 0x27] = .ok [.rotNop, .swL1 10000]
      ∧ decodeBytes [] = .error .noStepWord
      ∧ decodeBytes [0x40] = .error .widerThanStepWord
      ∧ decodeBytes [0x80, 0x01] = .error .widerThanStepWord := ⟨rfl, rfl, rfl, rfl⟩

theorem test_decode_table_words :
    decodeTableWord 8 0x20 = some .reset ∧ decodeTableWord 8 0x00 = some .rotNop
      ∧ decodeTableWord 8 0x18 = some .rot10 ∧ decodeTableWord 8 0x02 = some (.swL0 0)
      ∧ decodeTableWord 24 0x012C03 = some (.swL1 300) ∧ decodeTableWord 4 0x7 = some .qdt13
      ∧ decodeTableWord 8 0x40 = none ∧ decodeTableWord 4 16 = none := by decide

theorem test_fetch_word_runs_the_row :
    (nextOf (step (State.reset.withFetchWord 8 0x18))).map (fun t => t.currentState) = some 1 := by
  decide

theorem test_fetch_word_of_an_index_looks_up_its_cell :
    (nextOf (step (State.reset.withFetchWord 4 0x8))).map
      (fun t => (t.out.obsState, t.currentState, t.out.dir)) = some (2, 0, .clockwise) := by decide

theorem test_encode_two_slots : encodeCycle [.rot10, .swL1 5] = 0b011011 := by decide

/-! ## RESET and idle -/

/-- V-R1. -/
theorem test_reset :
    (nextOf (exec .reset (mkState .conventional 2 true 100 150 true))).map fields =
      some ⟨0, false, 0, 0, false⟩ := by decide

/-- V-R2: 0x3F wins over both slots and shows no event. -/
theorem test_reset_wins_over_both_slots :
    (cycle 0x3F 999 (mkState .conventional 1 true 100 100 true)).map
      (fun t => (fields t, t.out.dir, t.out.rotEvent, t.out.swEvent)) =
      some (⟨0, false, 0, 0, false⟩, .none, none, none) := by decide

/-- V-R4. -/
theorem test_idle :
    (cycle 0x00 77 (mkState .conventional 3 true 100 100 true)).map
      (fun t => (fields t, t.out.dir, t.out.rotEvent, t.out.swEvent)) =
      some (⟨3, true, 100, 100, true⟩, .none, none, none) := by decide

/-- R83, R99: no step in a slot shows nothing on that slot's ports. -/
theorem test_nop_slots :
    (nextOf (exec .rotNop (mkState .conventional 2 false 0 0 false))).map
        (fun t => (t.currentState, t.out.dir, t.out.rotEvent)) = some (2, .none, none)
      ∧ (nextOf (exec .swNop (mkState .conventional 2 true 5 6 true))).map
        (fun t => (fields t, t.out.swEvent)) = some (⟨2, true, 5, 6, true⟩, none) := by decide

/-! ## ROT steps: V-T00 to V-T33, columns "state after" and "dir" -/

/-- What the four ROT steps give from one state: state after and `dir`, for pairs 00, 01, 10, 11. -/
def rotRow (v : StateNumber) : List (Option (StateNumber × Direction)) :=
  [.rot00, .rot01, .rot10, .rot11].map fun i =>
    (nextOf (exec i (mkState .conventional v false 0 0 false))).map
      fun t => (t.currentState, t.out.dir)

theorem test_rot_from_state_0 :
    rotRow 0 = [some (0, .none), some (2, .none), some (1, .none), some (0, .none)] := by decide

theorem test_rot_from_state_1 :
    rotRow 1 = [some (0, .counterClockwise), some (1, .none), some (1, .none), some (3, .none)] := by
  decide

theorem test_rot_from_state_2 :
    rotRow 2 = [some (0, .clockwise), some (2, .none), some (2, .none), some (3, .none)] := by decide

theorem test_rot_from_state_3 :
    rotRow 3 = [some (3, .none), some (2, .none), some (1, .none), some (3, .none)] := by decide

/-! ## The cells: the same table, each cell in its own state (R67 to R82) -/

/-- What cells give from one state. -/
def cellRow (v : StateNumber) (cells : List Instr) : List (Option (StateNumber × Direction)) :=
  cells.map fun i => (nextOf (exec i (mkState .conventional v false 0 0 false))).map
    fun t => (t.currentState, t.out.dir)

theorem test_cells_of_state_0 : cellRow 0 [.qdt00, .qdt01, .qdt02, .qdt03] =
    [some (0, .none), some (2, .none), some (1, .none), some (0, .none)] := by decide

theorem test_cells_of_state_1 : cellRow 1 [.qdt10, .qdt11, .qdt12, .qdt13] =
    [some (0, .counterClockwise), some (1, .none), some (1, .none), some (3, .none)] := by decide

theorem test_cells_of_state_2 : cellRow 2 [.qdt20, .qdt21, .qdt22, .qdt23] =
    [some (0, .clockwise), some (2, .none), some (2, .none), some (3, .none)] := by decide

theorem test_cells_of_state_3 : cellRow 3 [.qdt30, .qdt31, .qdt32, .qdt33] =
    [some (3, .none), some (2, .none), some (1, .none), some (3, .none)] := by decide

/-! ## SW steps -/

/-- V-S1: the first edge is accepted whatever `now` is. -/
theorem test_sw_first_press :
    (cycle 0x03 4000000000 State.reset).map (fun t => (fields t, t.out.swEvent)) =
      some (⟨0, true, 4000000000, 4000000000, true⟩, swNormal .pressed) := by decide

/-- E5: 20 ticks after the accepted press, window 50. -/
theorem test_sw_bounce_is_discarded :
    (cycle 0x03 120 (mkState .conventional 0 true 100 100 true)).map
      (fun t => (fields t, t.out.swEvent)) = some (⟨0, true, 100, 100, true⟩, none) := by decide

/-- V-S7: `held` equal to the threshold is long. -/
theorem test_sw_l0_long_at_the_threshold :
    (nextOf (exec (.swL0 1100) (mkState combined 0 true 100 100 true))).map
      (fun t => (fields t, t.out.swEvent)) =
      some (⟨0, false, 0, 1100, true⟩, swLongPress) := by decide

/-- V-S8: one tick less is a plain release. -/
theorem test_sw_l0_released_below_the_threshold :
    (nextOf (exec (.swL0 1099) (mkState combined 0 true 100 100 true))).map
      (fun t => (fields t, t.out.swEvent)) =
      some (⟨0, false, 0, 1099, true⟩, swNormal .released) := by decide

/-- V-S13: with `PRESS_LEVEL` = 0 the level 1 is a release. -/
theorem test_sw_l1_is_a_release_when_low_means_pressed :
    (nextOf (exec (.swL1 200) (mkState { Config.conventional with pressLevel := false }
      0 true 100 100 true))).map (fun t => (fields t, t.out.swEvent)) =
      some (⟨0, false, 0, 200, true⟩, swNormal .released) := by decide

/-- P5, step 4: a duplicate outside the window across the wrap of an 8-bit `now`. -/
theorem test_sw_l1_refresh_across_the_wrap :
    (nextOf (exec (.swL1 4) (mkState narrow 0 true 250 250 true))).map
      (fun t => (fields t, t.out.swEvent)) = some (⟨0, true, 250, 4, true⟩, none) := by decide

/-- V-S12: 9 ticks after 250, across the wrap. -/
theorem test_swDiscard_across_the_wrap :
    (nextOf (exec (.swDiscard false 3) (mkState narrow 0 true 250 250 true))).map
      (fun t => (fields t, t.out.swEvent)) = some (⟨0, true, 250, 250, true⟩, none) := by decide

/-- V-S6, third step: a press exactly at the end of the window. -/
theorem test_swPress_at_the_end_of_the_window :
    (nextOf (exec (.swPress true 60) (mkState .conventional 0 false 0 10 true))).map
      (fun t => (fields t, t.out.swEvent)) =
      some (⟨0, true, 60, 60, true⟩, swNormal .pressed) := by decide

/-- V-S12: `held` = 4 - 250 = 10 modulo 256. -/
theorem test_swRelease_across_the_wrap :
    (nextOf (exec (.swRelease false 4) (mkState narrow 0 true 250 250 true))).map
      (fun t => (fields t, t.out.swEvent)) =
      some (⟨0, false, 0, 4, true⟩, swNormal .released) := by decide

/-- V-S14: `now` goes backwards; `held` is 4294967286. -/
theorem test_swLong_when_now_goes_backwards :
    (nextOf (exec (.swLong false 90) (mkState combined 0 true 100 100 true))).map
      (fun t => (fields t, t.out.swEvent)) = some (⟨0, false, 0, 90, true⟩, swLongPress) := by
  decide

/-- V-S17, second row. -/
theorem test_swRefresh_of_a_duplicate_release :
    (nextOf (exec (.swRefresh false 1000) (mkState .conventional 0 false 0 0 true))).map
      (fun t => (fields t, t.out.swEvent)) = some (⟨0, false, 0, 1000, true⟩, none) := by decide

/-! ## The mux -/

/-- V-M1: released. -/
theorem test_rot_event_carries_the_active_name :
    (cycle 0x10 0 (mkState combined 2 false 0 0 false)).map (fun t => (t.out.dir, t.out.rotEvent)) =
      some (.clockwise, rotActive .clockwise) := by decide

/-- V-M2: pressed, `SHIFT_EN` = 1. -/
theorem test_rot_event_carries_the_shifted_name :
    (cycle 0x10 0 (mkState combined 2 true 100 100 true)).map
      (fun t => (t.out.dir, t.out.rotEvent)) =
      some (.clockwise, rotShifted .clockwise) := by decide

/-- V-M3: pressed, `SHIFT_EN` = 0: `dir` is shown, the event is withheld. -/
theorem test_rot_event_is_suppressed :
    (cycle 0x10 0 (mkState .conventional 1 true 100 100 true)).map
      (fun t => (t.currentState, t.out.dir, t.out.rotEvent)) =
      some (0, .counterClockwise, none) := by decide

/-- V-M5 (a): the press of the same cycle does not shift the rotation. -/
theorem test_press_together_with_the_final_step :
    (cycle 0x13 100 (mkState combined 2 false 0 0 false)).map
      (fun t => (fields t, t.out.rotEvent, t.out.swEvent)) =
      some (⟨0, true, 100, 100, true⟩, rotActive .clockwise, swNormal .pressed) := by decide

/-- V-M5 (b), `LP_EN` = 0: the release of the same cycle does not unshift the rotation. -/
theorem test_release_together_with_the_final_step :
    (cycle 0x12 500 (mkState { combined with lpEn := false } 2 true 100 100 true)).map
      (fun t => (fields t, t.out.rotEvent, t.out.swEvent)) =
      some (⟨0, false, 0, 500, true⟩, rotShifted .clockwise, swNormal .released) := by decide

/-- V-M6: a pure rotary device ignores the switch, and `SHIFT_EN` = 1 does not matter. -/
theorem test_pure_rotary :
    (cycle 0x13 100 (mkState rotary 2 false 0 0 false)).map
      (fun t => (fields t, t.out.rotEvent, t.out.swEvent)) =
      some (⟨0, false, 0, 0, false⟩, rotActive .clockwise, none) := by decide

/-- The event each outcome shows, in the state in which it is the one taken (R111 to R113). -/
theorem test_mux_outcomes :
    (nextOf (exec .muxActive (showing (mkState combined 0 false 0 0 false) .clockwise))).map
        (fun t => t.out.rotEvent) = some (rotActive .clockwise)
      ∧ (nextOf (exec .muxShifted (showing (mkState combined 0 true 1 1 true)
        .counterClockwise))).map (fun t => t.out.rotEvent) = some (rotShifted .counterClockwise)
      ∧ (nextOf (exec .muxSuppress (showing (mkState .conventional 0 true 1 1 true)
        .clockwise))).map (fun t => t.out.rotEvent) = some none
      ∧ (nextOf (exec .muxNone (mkState combined 0 true 1 1 true))).map
        (fun t => t.out.rotEvent) = some none := by decide

/-- The callback calls of R46 to R48: a long press carries its own name and no Boolean. -/
theorem test_callbacks :
    (cycle 0x12 5000 (mkState combined 1 true 100 100 true)).map
      (fun t => (t.rotCallback, t.swCallback)) =
      some (some (⟨1⟩, .counterClockwise), some (⟨3⟩, .longPress)) := by decide

/-- The knobs of a switch with a long-press name and, where given, a threshold. -/
def longPressKnobs (threshold : Option Nat) : Knobs where
  tsWidth := 8
  tick := 1
  debounceWindow := 10
  pressLevel := true
  swPin := true
  activeName := ⟨0⟩
  nameShifted := none
  normalName := ⟨2⟩
  nameLongPress := some ⟨3⟩
  timeThreshold := threshold

/-- D27: a half-given long-press pair is `LP_EN` = 0. -/
theorem test_half_given_long_press : (configOfKnobs (longPressKnobs none)).lpEn = false := by decide

/-! ## Witnesses: for each statement with hypotheses, a state and operands that meet them -/

/-- Obligations.DecodeOfEncodeGivesTheCycleBack. -/
theorem witness_DecodeOfEncode :
    cycleWf 32 [.rot10, .swL1 4294967295] = true ∧ cycleWf 32 [.reset] = true
      ∧ Instr.format .qdt33 = .cell := by decide

/-- Obligations.CellsHoldTheConstantTable. -/
theorem witness_CellsHoldTheConstantTable :
    (mkState .conventional 3 false 0 0 false).currentState = (0b1111 : CellIndex).extractLsb' 2 2 := by
  decide

/-- Obligations.StepRunsTheDecodedOperations, both clauses. -/
theorem witness_StepRunsTheDecodedOperations :
    (presents State.reset [⟨0x20, 0⟩]).cfg.legal = true
      ∧ (presents State.reset [⟨0x20, 0⟩]).inputs = ⟨0x20, 0⟩ :: []
      ∧ decodeWord 0x20 0 = [.reset] ∧ decodeWord 0x1B 5 = [.rot10, .swL1 5]
      ∧ ∃ t, exec .rot10
          { State.reset with
            inputs := []
            out := ⟨.none, none, none, State.reset.currentState,
              State.reset.cfg.swPresent && State.reset.isPressed⟩ } = .next t :=
  ⟨by decide, rfl, by decide, by decide, _, rfl⟩

/-- Obligations.NoInputIsAnIdleCycle, RunsOfAnyLengthComplete, ObservationOutputsShowTheRegisteredValues,
OnlyLegalPortCodesAreProduced, StepNeverFaultsAndRefusesOnlyIllegalConfigurations (first clause). -/
theorem witness_legal_and_no_input :
    State.reset.cfg.legal = true ∧ State.reset.inputs = [] := by decide

/-- Obligations.StepNeverFaultsAndRefusesOnlyIllegalConfigurations, third clause. -/
theorem witness_StepIsRefused :
    step (mkState { narrow with tsWidth := 0 } 0 false 0 0 false)
      = .refused .illegalConfiguration := rfl

/-- The hypotheses of Obligations.IgnoredInputsHaveNoEffect. -/
def differOnlyWhereIgnored (sw : Bool) (c d : InputCycle) : Prop :=
  c.iw.getLsbD 5 = d.iw.getLsbD 5 ∧
  (c.iw.getLsbD 5 = false →
    c.iw.getLsbD 4 = d.iw.getLsbD 4 ∧
    (c.iw.getLsbD 4 = true → c.iw.getLsbD 3 = d.iw.getLsbD 3 ∧ c.iw.getLsbD 2 = d.iw.getLsbD 2) ∧
    (sw = true → c.iw.getLsbD 1 = d.iw.getLsbD 1 ∧
      (c.iw.getLsbD 1 = true → c.iw.getLsbD 0 = d.iw.getLsbD 0 ∧ c.now = d.now)))

/-- Obligations.IgnoredInputsHaveNoEffect: two spellings of RESET, two of `SW.L1 9`, two of IDLE, and any
SW slot of a device without a switch. -/
theorem witness_IgnoredInputsHaveNoEffect :
    differOnlyWhereIgnored true ⟨0x3F, 999⟩ ⟨0x20, 0⟩
      ∧ differOnlyWhereIgnored true ⟨0x0F, 9⟩ ⟨0x03, 9⟩
      ∧ differOnlyWhereIgnored true ⟨0x0D, 7⟩ ⟨0x00, 0⟩
      ∧ differOnlyWhereIgnored false ⟨0x13, 100⟩ ⟨0x10, 0⟩ := by
  unfold differOnlyWhereIgnored
  refine ⟨?_, ?_, ?_, ?_⟩ <;> decide

/-- Obligations.OutputsHoldNothingBetweenSteps. -/
theorem witness_OutputsHoldNothingBetweenSteps :
    (showing State.reset .clockwise).cfg = State.reset.cfg
      ∧ SameBlock State.reset (showing State.reset .clockwise)
      ∧ (showing State.reset .clockwise).inputs = State.reset.inputs
      ∧ showing State.reset .clockwise ≠ State.reset := by decide

/-- Obligations.StepKeepsTheConfiguration. -/
theorem witness_StepKeepsTheConfiguration :
    ∃ t, step (presents State.reset [⟨0x18, 0⟩]) = .next t := ⟨_, rfl⟩

/-- Obligations.ResetWinsOverBothSlots. -/
theorem witness_ResetWinsOverBothSlots :
    (presents (mkState .conventional 1 true 100 100 true) [⟨0x3F, 999⟩]).cfg.legal = true
      ∧ (presents (mkState .conventional 1 true 100 100 true) [⟨0x3F, 999⟩]).inputs =
        ⟨0x3F, 999⟩ :: []
      ∧ (0x3F : StepWord).getLsbD 5 = true := ⟨by decide, rfl, by decide⟩

/-- Obligations.FirstStepsAfterResetAreJudgedFromRest; a level that is the press level and one that is
not. -/
theorem witness_FirstStepsAfterReset :
    fields State.reset = ⟨0, false, 0, 0, false⟩ ∧ State.reset.cfg.swPresent = true
      ∧ true = State.reset.cfg.pressLevel ∧ false ≠ State.reset.cfg.pressLevel := by decide

/-- Obligations.SingleGrayStepIsAccepted, with and without a Direction, and
Obligations.OtherReadingsAreRejected, a same and a diagonal reading. -/
theorem witness_Readings :
    oneLineDiffers (mkState .conventional 2 false 0 0 false).currentState false false = true
      ∧ oneLineDiffers (mkState .conventional 0 false 0 0 false).currentState true false = true
      ∧ oneLineDiffers (mkState .conventional 2 false 0 0 false).currentState false true = false
      ∧ oneLineDiffers (mkState .conventional 2 false 0 0 false).currentState true false = false := by
  decide

/-- Obligations.CellsOfStatesZeroAndOne and CellsOfStatesTwoAndThree. -/
theorem witness_CellsOfStates (v : StateNumber) :
    (mkState .conventional v false 0 0 false).currentState = v := rfl

/-- Obligations.UnselectedRowsChangeNothing, its clauses on the name selection: a Direction with the switch
pressed, and released, with a shifted name and without. -/
theorem witness_UnselectedMuxOutcomes :
    (mkState combined 0 true 1 1 true).atomicReadPressed = true
      ∧ (mkState combined 0 false 0 0 false).atomicReadPressed = false
      ∧ Config.conventional.shiftEn = false ∧ combined.shiftEn = true
      ∧ nextOf (exec .muxActive (showing (mkState combined 0 true 1 1 true) .clockwise)) =
        some (showing (mkState combined 0 true 1 1 true) .clockwise) := by decide

/-- Obligations.UnselectedRowsChangeNothing, its clauses on the switch outcomes outside the window: a
duplicate press, a press, a release one tick below the threshold and at it. -/
theorem witness_UnselectedSwitchOutcomes :
    let pressed := mkState combined 0 true 100 100 true
    let released := mkState combined 0 false 0 100 true
    OutsideWindow pressed 150
      ∧ ¬ (true = pressed.cfg.pressLevel ∧ pressed.isPressed = false)
      ∧ ¬ (true ≠ pressed.cfg.pressLevel ∧ pressed.isPressed = true)
      ∧ IsLong pressed 1100 ∧ ¬ IsLong pressed 1099
      ∧ ¬ (true = released.cfg.pressLevel ↔ released.isPressed = true)
      ∧ nextOf (exec (.swPress true 150) pressed) = some pressed
      ∧ nextOf (exec (.swRefresh true 150) released) = some released := by decide

/-- Obligations.UnselectedRowsChangeNothing, its other clauses in order. -/
theorem witness_UnselectedRowsChangeNothing :
    State.reset.currentState ≠ (0b0100 : CellIndex).extractLsb' 2 2
      ∧ State.reset.out.dir = .none
      ∧ (showing State.reset .clockwise).out.dir ≠ .none
      ∧ (mkState rotary 0 false 0 0 false).cfg.swPresent = false
      ∧ InsideWindow (mkState narrow 0 true 250 250 true) 3
      ∧ Instr.swPress true 3 ≠ .swDiscard true 3
      ∧ OutsideWindow (mkState narrow 0 true 250 250 true) 4 := by decide

/-- Obligations.FullCyclesGiveExactlyOneDirection, both clauses. -/
theorem witness_FullCycles :
    State.reset.cfg.legal = true ∧ State.reset.currentState = 0
      ∧ (presents State.reset (repeatWord 1 0x18 ++ repeatWord 1 0x1C ++ repeatWord 1 0x14
        ++ repeatWord 1 0x10)).inputs = repeatWord (0 + 1) 0x18 ++ repeatWord (0 + 1) 0x1C
          ++ repeatWord (0 + 1) 0x14 ++ repeatWord (0 + 1) 0x10
      ∧ (presents State.reset (repeatWord 2 0x14 ++ repeatWord 1 0x1C ++ repeatWord 3 0x18
        ++ repeatWord 1 0x10)).inputs = repeatWord (1 + 1) 0x14 ++ repeatWord (0 + 1) 0x1C
          ++ repeatWord (2 + 1) 0x18 ++ repeatWord (0 + 1) 0x10 := by decide

/-- Obligations.PartialReturnsGiveADirection, its three clauses. -/
theorem witness_PartialReturns :
    State.reset.cfg.legal = true ∧ State.reset.currentState = 0
      ∧ (presents State.reset [⟨0x18, 0⟩, ⟨0x10, 0⟩]).inputs = [⟨0x18, 0⟩, ⟨0x10, 0⟩]
      ∧ (presents State.reset [⟨0x14, 0⟩, ⟨0x10, 0⟩]).inputs = [⟨0x14, 0⟩, ⟨0x10, 0⟩]
      ∧ (presents State.reset [⟨0x18, 0⟩, ⟨0x1C, 0⟩, ⟨0x18, 0⟩, ⟨0x10, 0⟩]).inputs =
        [⟨0x18, 0⟩, ⟨0x1C, 0⟩, ⟨0x18, 0⟩, ⟨0x10, 0⟩] := by decide

/-- Obligations.RepeatedReadingsGiveNoDirection. -/
theorem witness_RepeatedReadings :
    (mkState .conventional 2 false 0 0 false).currentState = stateOfPair false true := by decide

/-- Obligations.CurrentStateIsTheLastAcceptedReading, DirectionsCountTheReturnsToRest and
SwitchEventsAlternate: a run with both slots and no RESET. -/
theorem witness_NoReset :
    (presents State.reset [⟨0x1B, 100⟩, ⟨0x12, 500⟩]).cfg.legal = true
      ∧ noReset (presents State.reset [⟨0x1B, 100⟩, ⟨0x12, 500⟩]) = true := by decide

/-- Obligations.OnlyEdgesInsideTheWindowAreDiscarded, at the last tick of the window and one later. -/
theorem witness_EdgeInsideTheWindow :
    (mkState .conventional 0 true 100 100 true).cfg.swPresent = true
      ∧ InsideWindow (mkState .conventional 0 true 100 100 true) 149
      ∧ OutsideWindow (mkState .conventional 0 true 100 100 true) 150 := by decide

/-- Obligations.AcceptedPressSetsTheSwitch, at the end of the window and with no accepted edge. -/
theorem witness_AcceptedPress :
    (mkState .conventional 0 false 0 10 true).cfg.swPresent = true
      ∧ OutsideWindow (mkState .conventional 0 false 0 10 true) 60
      ∧ OutsideWindow State.reset 0
      ∧ true = (mkState .conventional 0 false 0 10 true).cfg.pressLevel
      ∧ (mkState .conventional 0 false 0 10 true).isPressed = false := by decide

/-- Obligations.AcceptedReleaseClassifiesThePress: long at the threshold, not long one tick below. -/
theorem witness_AcceptedRelease :
    (mkState combined 0 true 100 100 true).cfg.swPresent = true
      ∧ OutsideWindow (mkState combined 0 true 100 100 true) 1100
      ∧ OutsideWindow (mkState combined 0 true 100 100 true) 1099
      ∧ false ≠ (mkState combined 0 true 100 100 true).cfg.pressLevel
      ∧ (mkState combined 0 true 100 100 true).isPressed = true
      ∧ IsLong (mkState combined 0 true 100 100 true) 1100
      ∧ ¬ IsLong (mkState combined 0 true 100 100 true) 1099 := by decide

/-- Obligations.DuplicateLevelRefreshesTheWindow: a duplicate press and a duplicate release. -/
theorem witness_DuplicateLevel :
    OutsideWindow (mkState .conventional 0 true 100 100 true) 150
      ∧ (true = (mkState .conventional 0 true 100 100 true).cfg.pressLevel ↔
        (mkState .conventional 0 true 100 100 true).isPressed = true)
      ∧ OutsideWindow State.reset 10
      ∧ (false = State.reset.cfg.pressLevel ↔ State.reset.isPressed = true)
      ∧ State.reset.cfg.swPresent = true := by decide

/-- Obligations.NoSwitchStepKeepsTheSwitch, second clause. -/
theorem witness_NoSwitch : (mkState rotary 0 false 0 0 false).cfg.swPresent = false := by decide

/-- Obligations.SwitchOutcomesHaveTheirEffect (its five clauses in order) and
SwStepIsExactlyOneOutcome. -/
theorem witness_SwitchOutcomes :
    (mkState narrow 0 true 250 250 true).cfg.swPresent = true
      ∧ InsideWindow (mkState narrow 0 true 250 250 true) 3
      ∧ (OutsideWindow (mkState narrow 0 false 0 250 true) 4
        ∧ true = narrow.pressLevel ∧ (mkState narrow 0 false 0 250 true).isPressed = false)
      ∧ (OutsideWindow (mkState narrow 0 true 250 250 true) 43 ∧ false ≠ narrow.pressLevel
        ∧ (mkState narrow 0 true 250 250 true).isPressed = true
        ∧ ¬ IsLong (mkState narrow 0 true 250 250 true) 43)
      ∧ (OutsideWindow (mkState narrow 0 true 250 250 true) 44
        ∧ IsLong (mkState narrow 0 true 250 250 true) 44)
      ∧ (OutsideWindow (mkState narrow 0 true 250 250 true) 4
        ∧ (true = narrow.pressLevel ↔ (mkState narrow 0 true 250 250 true).isPressed = true)) := by
  decide

/-- Obligations.LongPressDisabledIsNeverReported, both clauses, at the end of the window. -/
theorem witness_LongPressDisabled :
    (mkState .conventional 0 true 100 100 true).cfg.lpEn = false
      ∧ (mkState .conventional 0 true 100 100 true).cfg.swPresent = true
      ∧ OutsideWindow (mkState .conventional 0 true 100 100 true) 150
      ∧ false ≠ (mkState .conventional 0 true 100 100 true).cfg.pressLevel
      ∧ (mkState .conventional 0 true 100 100 true).isPressed = true
      ∧ (configOfKnobs (longPressKnobs (some 50))).lpEn = true := by decide

/-- Obligations.WindowAndThresholdCorners, its clauses in order. -/
theorem witness_Corners :
    State.reset.cfg.swPresent = true
      ∧ ({ narrow with debounceWindow := 0 } : Config).debounceWindow = 0
      ∧ ({ narrow with debounceWindow := 255 } : Config).debounceWindow = 2 ^ narrow.tsWidth - 1
      ∧ minusW narrow.tsWidth 8 10 = 254 ∧ minusW narrow.tsWidth 9 10 = 255
      ∧ ({ narrow with lpThreshold := 0 } : Config).lpEn = true
      ∧ portNow (mkState narrow 0 true 10 10 true) 10 = (mkState narrow 0 true 10 10 true).lastAcceptedAt
      ∧ (mkState narrow 0 true 10 10 true).lastValid = true ∧ narrow.debounceWindow ≠ 0
      ∧ portNow (mkState narrow 0 true 10 20 true) 10 = (mkState narrow 0 true 10 20 true).pressStartedAt
      ∧ narrow.lpThreshold ≠ 0 := by decide

/-- Obligations.ModularTimesAreTrueDurations, across a wrap and at the longest interval. -/
theorem witness_ModularTimes :
    (250 : Nat) ≤ 505 ∧ 505 - 250 < 2 ^ narrow.tsWidth
      ∧ (mkState narrow 0 true 250 250 true).lastAcceptedAt = 250 % 2 ^ narrow.tsWidth
      ∧ (mkState narrow 0 true 250 250 true).pressStartedAt = 250 % 2 ^ narrow.tsWidth := by decide

/-- V-S11: window and threshold both 50, accepted edge 50 ticks before. -/
def shortThreshold : State :=
  mkState { Config.conventional with lpEn := true, lpThreshold := 50 } 0 true 100 100 true

/-- Obligations.ShortThresholdMakesEveryReleaseLong. -/
theorem witness_ShortThreshold :
    (100 : Nat) ≤ 100 ∧ 100 ≤ 150 ∧ 150 - 100 < 2 ^ shortThreshold.cfg.tsWidth
      ∧ shortThreshold.pressStartedAt = 100 % 2 ^ shortThreshold.cfg.tsWidth
      ∧ shortThreshold.lastAcceptedAt = 100 % 2 ^ shortThreshold.cfg.tsWidth
      ∧ shortThreshold.lastValid = true ∧ shortThreshold.isPressed = true
      ∧ shortThreshold.cfg.swPresent = true ∧ false ≠ shortThreshold.cfg.pressLevel
      ∧ shortThreshold.cfg.lpEn = true
      ∧ shortThreshold.cfg.lpThreshold ≤ shortThreshold.cfg.debounceWindow
      ∧ shortThreshold.cfg.debounceWindow ≤ 150 - 100 := by decide

/-- Obligations.LostReleaseIsMeasuredFromTheFirstPress: release lost at 120, press at 150, release at
1100 (long) or at 1099 (not long). -/
theorem witness_LostRelease :
    (mkState combined 0 true 100 100 true).cfg.swPresent = true
      ∧ (mkState combined 0 true 100 100 true).isPressed = true
      ∧ true = (mkState combined 0 true 100 100 true).cfg.pressLevel
      ∧ InsideWindow (mkState combined 0 true 100 100 true) 120
      ∧ OutsideWindow (mkState combined 0 true 100 100 true) 150
      ∧ combined.debounceWindow ≤ minusW combined.tsWidth 1100 150
      ∧ combined.debounceWindow ≤ minusW combined.tsWidth 1099 150
      ∧ IsLong (mkState combined 0 true 100 100 true) 1100
      ∧ ¬ IsLong (mkState combined 0 true 100 100 true) 1099 := by decide

/-- Obligations.PressStartIsTheTimeOfThePress: a press, and a step while pressed. -/
theorem witness_PressStart :
    (presents State.reset [⟨0x03, 100⟩]).cfg.legal = true
      ∧ (presents State.reset [⟨0x03, 100⟩]).nextInput.iw.getLsbD 5 = false
      ∧ (presents State.reset [⟨0x03, 100⟩]).isPressed = false
      ∧ (cycle 0x03 100 State.reset).map (fun t => t.isPressed) = some true
      ∧ (cycle 0x03 150 (mkState .conventional 0 true 100 100 true)).map (fun t => t.isPressed) =
        some true := by decide

/-- Obligations.TimeAloneDoesNothing: levels and `now` vary, no strobe. -/
theorem witness_TimeAlone :
    (presents (mkState combined 0 true 100 100 true) [⟨0x0C, 1100⟩, ⟨0x01, 5⟩]).cfg.legal = true
      ∧ noStrobe (presents (mkState combined 0 true 100 100 true) [⟨0x0C, 1100⟩, ⟨0x01, 5⟩]) =
        true := by decide

/-- Obligations.RotationEventIsNamedByThePressState and CallbacksCarryTheConfiguredNames: a Direction
with the switch released, pressed with a shifted name, pressed without one. -/
theorem witness_RotationEvent :
    (nextOf (exec .rot00 (mkState combined 2 false 0 0 false))).map (fun t => t.out.bits.dir) =
        some 0b01
      ∧ (nextOf (exec .rot00 (mkState combined 2 true 1 1 true))).map
        (fun t => (t.out.bits.dir, t.cfg.swPresent && t.isPressed, t.cfg.shiftEn)) =
          some (0b01, true, true)
      ∧ (nextOf (exec .rot00 (mkState .conventional 1 true 1 1 true))).map
        (fun t => (t.out.bits.dir, t.cfg.swPresent && t.isPressed, t.cfg.shiftEn)) =
          some (0b10, true, false) := by decide

/-- Obligations.MuxOutcomesHaveTheirEffect, its four clauses. -/
theorem witness_MuxOutcomes :
    State.reset.out.dir = .none
      ∧ (showing State.reset .clockwise).out.dir ≠ .none
      ∧ (State.reset.cfg.swPresent && State.reset.isPressed) = false
      ∧ ((mkState combined 0 true 1 1 true).cfg.swPresent
        && (mkState combined 0 true 1 1 true).isPressed) = true
      ∧ combined.shiftEn = true ∧ Config.conventional.shiftEn = false := by decide

/-- Obligations.SameCycleSlotsDoNotInterfere: V-M5 (a). -/
theorem witness_SameCycle :
    (presents (mkState combined 2 false 0 0 false) [⟨0x13, 100⟩]).cfg.legal = true
      ∧ (presents (mkState combined 2 false 0 0 false) [⟨0x13, 100⟩]).inputs = ⟨0x13, 100⟩ :: []
      ∧ (0x13 : StepWord).getLsbD 5 = false := ⟨by decide, rfl, by decide⟩

/-- Obligations.SwitchIsIndependentOfTheDecoder: two states of different decoder, two different ROT
slots, one SW slot. -/
theorem witness_SwitchIndependence :
    let s := presents (mkState combined 2 true 1 1 true) [⟨0x12, 500⟩]
    let s' := presents (mkState combined 1 true 1 1 true) [⟨0x1E, 500⟩]
    s.cfg.legal = true ∧ s'.cfg = s.cfg ∧ SameSwitch s s'
      ∧ s'.nextInput.iw.getLsbD 5 = s.nextInput.iw.getLsbD 5
      ∧ s'.nextInput.iw.getLsbD 1 = s.nextInput.iw.getLsbD 1
      ∧ s'.nextInput.iw.getLsbD 0 = s.nextInput.iw.getLsbD 0
      ∧ s'.nextInput.now = s.nextInput.now ∧ s'.currentState ≠ s.currentState := by decide

/-- Obligations.DecoderIsIndependentOfTheSwitch: pressed and suppressed against released. -/
theorem witness_DecoderIndependence :
    let s := presents (mkState .conventional 2 true 1 1 true) [⟨0x12, 500⟩]
    let s' := presents (mkState combined 2 false 0 0 false) [⟨0x10, 7⟩]
    s.cfg.legal = true ∧ s'.cfg.legal = true ∧ s'.currentState = s.currentState
      ∧ s'.nextInput.iw.extractLsb' 2 4 = s.nextInput.iw.extractLsb' 2 4
      ∧ s'.isPressed ≠ s.isPressed := by decide

/-- Obligations.PureRotaryDeviceIgnoresTheSwitch, with a Direction. -/
theorem witness_PureRotary :
    let s := presents (mkState rotary 2 false 0 0 false) [⟨0x13, 100⟩]
    s.cfg.legal = true ∧ s.cfg.swPresent = false ∧ s.isPressed = false
      ∧ s.nextInput.iw.getLsbD 5 = false
      ∧ (nextOf (step s)).map (fun t => t.out.bits.dir) = some 0b01 := by decide

/-- Obligations.EveryStepKeepsTheStateConsistent: a state in the middle of a press and of a turn. -/
theorem witness_Consistent : Consistent (mkState combined 3 true 100 150 true) := by decide

end Sys2Proof.Tests
end

section
/-! The order of a cycle (R5, R34, R41): what a cycle starts from, and that its operations run one after
the other on it. -/

namespace Sys2Proof.Machine

theorem nextInput_of_inputs_cons {s : State} {c : InputCycle} {rest : List InputCycle}
    (h : s.inputs = c :: rest) : s.nextInput = c := by
  simp [State.nextInput, h]

/-- Spells out the state a cycle starts from when its inputs are `c` (R40, R48). -/
theorem startCycle_of_inputs_cons {s : State} {c : InputCycle} {rest : List InputCycle}
    (h : s.inputs = c :: rest) :
    s.startCycle = { s with
      inputs := rest
      out := ⟨.none, none, none, s.currentState, s.cfg.swPresent && s.isPressed⟩ } := by
  simp [State.startCycle, State.atomicReadPressed, h]

theorem step_of_inputs_cons {s : State} {c : InputCycle} {rest : List InputCycle}
    (hlegal : s.cfg.legal = true) (h : s.inputs = c :: rest) :
    step s = runOps (decodeWord c.iw c.now) s.startCycle := by
  rw [step_of_legal hlegal, nextInput_of_inputs_cons h]

/-- Running one operation is its meaning, whichever outcome it has. -/
theorem runOps_singleton (i : Instr) (s : State) : runOps [i] s = exec i s := by
  cases h : exec i s <;> simp [runOps, h]

/-- Settles O6: a cycle starts from the state the statement writes out, and runs there the one decoded
operation, or the second one on what the first answers. -/
theorem stepRunsTheDecodedOperations : Obligations.StepRunsTheDecodedOperations := by
  intro s c rest hlegal hinputs
  rw [step_of_inputs_cons hlegal hinputs, startCycle_of_inputs_cons hinputs]
  constructor
  · intro i hdecode
    rw [hdecode, runOps_singleton]
  · intro i j t hdecode hexec
    rw [hdecode, runOps_two hexec]

end Sys2Proof.Machine
end

section
/-! One cycle as one function of the state, and what it leaves unchanged: the frame of each slot, of RESET
and of the whole cycle (R17, R21, R24, R34). -/

namespace Sys2Proof.Machine

open Sys2Proof.Safety

/-! The two slots and RESET. -/

@[simp] theorem startCycle_sameSwitch (s : State) : SameSwitch s s.startCycle := ⟨rfl, rfl, rfl, rfl⟩

/-- The ROT slot writes no field of the switch (R21). -/
@[simp] theorem rotSlotStep_sameSwitch (iw : StepWord) (s : State) :
    SameSwitch s (rotSlotStep iw s) := by
  obtain ⟨v, d, e, h⟩ := rotSlotStep_shape iw s
  rw [h]
  exact ⟨rfl, rfl, rfl, rfl⟩

@[simp] theorem rotSlotStep_sameSetting (iw : StepWord) (s : State) :
    SameSetting s (rotSlotStep iw s) := by
  obtain ⟨v, d, e, h⟩ := rotSlotStep_shape iw s
  rw [h]
  exact ⟨rfl, rfl, rfl, rfl⟩

/-- The SW slot does not write the decoder's state (R21). -/
@[simp] theorem swSlotStep_currentState (iw : StepWord) (now : Nat) (s : State) :
    (swSlotStep iw now s).currentState = s.currentState := by
  obtain ⟨q, a, b, v, e, h⟩ := swSlotStep_shape iw now s
  simp [h]

@[simp] theorem swSlotStep_sameRotPorts (iw : StepWord) (now : Nat) (s : State) :
    SameRotPorts s (swSlotStep iw now s) := by
  obtain ⟨q, a, b, v, e, h⟩ := swSlotStep_shape iw now s
  rw [h]
  exact ⟨rfl, rfl⟩

@[simp] theorem swSlotStep_sameSetting (iw : StepWord) (now : Nat) (s : State) :
    SameSetting s (swSlotStep iw now s) := by
  obtain ⟨q, a, b, v, e, h⟩ := swSlotStep_shape iw now s
  rw [h]
  exact ⟨rfl, rfl, rfl, rfl⟩

/-- The SW slot reads two bits of the word. -/
theorem swSlotStep_word_congr {iw iw' : StepWord} (h₁ : iw'.getLsbD 1 = iw.getLsbD 1)
    (h₀ : iw'.getLsbD 0 = iw.getLsbD 0) (now : Nat) (s : State) :
    swSlotStep iw' now s = swSlotStep iw now s := by
  simp only [swSlotStep, h₁, h₀]

/-- Without a SW strobe only the event port is written (R99). -/
theorem swSlotStep_of_no_strobe {iw : StepWord} (h : iw.getLsbD 1 = false) (now : Nat) (s : State) :
    swSlotStep iw now s = s.setSwEvent none := by
  simp only [swSlotStep, h, Bool.false_eq_true, if_false]

/-- Without a ROT strobe only the ROT ports are written (R83). -/
theorem rotSlotStep_of_no_strobe {iw : StepWord} (h : iw.getLsbD 4 = false) (s : State) :
    rotSlotStep iw s = (s.setDir .none).setRotEvent none := by
  simp only [rotSlotStep, h, Bool.false_eq_true, if_false]

theorem resetStep_sameSetting (s : State) : SameSetting s (resetStep s) := ⟨rfl, rfl, rfl, rfl⟩

/-- Ports that hold no Direction and no event show "no event" as bits (R48). -/
theorem noEvent_of_ports {t : State} (hd : t.out.dir = .none) (hr : t.out.rotEvent = none)
    (hs : t.out.swEvent = none) : NoEvent t := by
  simp [NoEvent, Ports.bits, directionCode, hd, hr, hs]

theorem noEvent_resetStep (s : State) : NoEvent (resetStep s) := noEvent_of_ports rfl rfl rfl

/-! The whole cycle. -/

theorem cycleStep_of_rst {iw : StepWord} (h : iw.getLsbD 5 = true) (now : Nat) (s : State) :
    cycleStep iw now s = resetStep s := by
  simp only [cycleStep, h, if_true]

theorem cycleStep_of_not_rst {iw : StepWord} (h : iw.getLsbD 5 = false) (now : Nat) (s : State) :
    cycleStep iw now s = swSlotStep iw now (rotSlotStep iw s) := by
  simp only [cycleStep, h, Bool.false_eq_true, if_false]

/-- No operation of a cycle writes the constants, the coming inputs or the observation outputs. -/
theorem cycleStep_sameSetting (iw : StepWord) (now : Nat) (s : State) :
    SameSetting s (cycleStep iw now s) := by
  cases h : iw.getLsbD 5
  · simp [SameSetting, cycleStep_of_not_rst h]
  · rw [cycleStep_of_rst h]
    exact resetStep_sameSetting s

/-- The state after the coming cycle; what `step` answers in a legal configuration (`step_eq_nextState`). -/
def nextState (s : State) : State := cycleStep s.nextInput.iw s.nextInput.now s.startCycle

theorem step_eq_nextState {s : State} (h : s.cfg.legal = true) : step s = .next (nextState s) :=
  step_eq_cycleStep h

/-- Only a legal configuration steps, and then to `nextState`. -/
theorem step_eq_next {s t : State} (h : step s = .next t) : s.cfg.legal = true ∧ t = nextState s := by
  cases hlegal : s.cfg.legal with
  | false => simp [step, hlegal] at h
  | true =>
    rw [step_eq_nextState hlegal] at h
    cases h
    exact ⟨rfl, rfl⟩

@[simp] theorem nextState_cfg (s : State) : (nextState s).cfg = s.cfg := by
  obtain ⟨hcfg, -, -, -⟩ := cycleStep_sameSetting s.nextInput.iw s.nextInput.now s.startCycle
  exact hcfg

@[simp] theorem nextState_inputs (s : State) : (nextState s).inputs = s.inputs.tail := by
  obtain ⟨-, hinputs, -, -⟩ := cycleStep_sameSetting s.nextInput.iw s.nextInput.now s.startCycle
  exact hinputs

theorem nextState_of_rst {s : State} (h : s.nextInput.iw.getLsbD 5 = true) :
    nextState s = resetStep s.startCycle :=
  cycleStep_of_rst h _ _

theorem nextState_of_not_rst {s : State} (h : s.nextInput.iw.getLsbD 5 = false) :
    nextState s = swSlotStep s.nextInput.iw s.nextInput.now (rotSlotStep s.nextInput.iw s.startCycle) :=
  cycleStep_of_not_rst h _ _

/-! Runs of several cycles. -/

theorem run_succ_of_step {s t : State} (h : step s = .next t) (k : Nat) :
    Host.Core.run core (k + 1) s = Host.Core.run core k t := by
  have hcore : core.step s = .next t := h
  simp only [Host.Core.run, hcore]

theorem statesAfter_succ {s : State} (h : s.cfg.legal = true) (k : Nat) :
    statesAfter (k + 1) s = nextState s :: statesAfter k (nextState s) := by
  simp only [statesAfter, step_eq_nextState h]

/-- What holds of every coming input and of the idle cycle holds of the inputs of the next cycle. -/
theorem nextInput_of_all {p : InputCycle → Bool} (hidle : p InputCycle.idle = true) {s : State}
    (h : s.inputs.all p = true) : p s.nextInput = true := by
  unfold State.nextInput
  cases hin : s.inputs with
  | nil => exact hidle
  | cons c rest => simp_all

theorem nextState_inputs_all {p : InputCycle → Bool} {s : State} (h : s.inputs.all p = true) :
    (nextState s).inputs.all p = true := by
  rw [nextState_inputs, List.all_eq_true] at *
  exact fun c hc => h c (List.mem_of_mem_tail hc)

theorem rst_of_noReset {s : State} (h : noReset s = true) : s.nextInput.iw.getLsbD 5 = false := by
  simpa using nextInput_of_all (by decide) h

theorem noReset_nextState {s : State} (h : noReset s = true) : noReset (nextState s) = true :=
  nextState_inputs_all h

theorem strobes_of_noStrobe {s : State} (h : noStrobe s = true) :
    s.nextInput.iw.getLsbD 5 = false ∧ s.nextInput.iw.getLsbD 4 = false
      ∧ s.nextInput.iw.getLsbD 1 = false := by
  simpa [and_assoc] using nextInput_of_all (by decide) h

theorem noStrobe_nextState {s : State} (h : noStrobe s = true) : noStrobe (nextState s) = true :=
  nextState_inputs_all h

end Sys2Proof.Machine
end

section
/-! The decoder over a run (R20 I1, R60): its state is the label of the last accepted reading, and neither
it nor `dir` depends on the switch. -/

namespace Sys2Proof.Machine

open Sys2Proof.Safety

/-- The state number after the ROT slot of a word, from the one before it (R63, R64, R83). -/
def acceptReading (v : StateNumber) (iw : StepWord) : StateNumber :=
  if iw.getLsbD 4 && oneLineDiffers v (iw.getLsbD 3) (iw.getLsbD 2) then
    stateOfPair (iw.getLsbD 3) (iw.getLsbD 2)
  else v

theorem rotSlotStep_currentState (iw : StepWord) (s : State) :
    (rotSlotStep iw s).currentState = acceptReading s.currentState iw := by
  unfold rotSlotStep acceptReading
  cases iw.getLsbD 4
  · simp
  · simp [rotStep_currentState]

theorem nextState_currentState {s : State} (h : s.nextInput.iw.getLsbD 5 = false) :
    (nextState s).currentState = acceptReading s.currentState s.nextInput.iw := by
  rw [nextState_of_not_rst h, swSlotStep_currentState, rotSlotStep_currentState,
    State.startCycle_currentState]

/-- Without a strobe no reading is accepted. -/
theorem acceptReading_idle (v : StateNumber) : acceptReading v InputCycle.idle.iw = v := by
  revert v; decide

theorem lastAcceptedState_cons (v : StateNumber) (c : InputCycle) (rest : List InputCycle) :
    lastAcceptedState v (c :: rest) = lastAcceptedState (acceptReading v c.iw) rest := by
  simp only [lastAcceptedState, acceptReading]
  split <;> rfl

/-- The first cycle of a run accounted for, an idle one where no input is left. -/
theorem lastAcceptedState_take_succ (v : StateNumber) (k : Nat) (s : State) :
    lastAcceptedState v (s.inputs.take (k + 1)) =
      lastAcceptedState (acceptReading v s.nextInput.iw) ((nextState s).inputs.take k) := by
  rw [nextState_inputs]
  unfold State.nextInput
  cases s.inputs with
  | nil => simp [acceptReading_idle]
  | cons c rest => simp [lastAcceptedState_cons]

/-- Settles O32, by induction on the length of the run: each cycle takes the state number to
`acceptReading` of it, as the statement's own fold over the inputs does. -/
theorem currentStateIsTheLastAcceptedReading : Obligations.CurrentStateIsTheLastAcceptedReading := by
  intro k
  induction k with
  | zero => exact fun s _ _ => ⟨s, rfl, rfl⟩
  | succ k ih =>
    intro s hlegal hreset
    obtain ⟨t, hrun, hstate⟩ := ih (nextState s) (by simpa using hlegal) (noReset_nextState hreset)
    refine ⟨t, (run_succ_of_step (step_eq_nextState hlegal) k).trans hrun, ?_⟩
    rw [hstate, nextState_currentState (rst_of_noReset hreset), lastAcceptedState_take_succ]

/-- The ROT slot's Direction is given by the state number and the slot's four bits. -/
theorem rotSlotStep_dir_congr {iw iw' : StepWord} {s s' : State}
    (hs : s'.currentState = s.currentState) (h₄ : iw'.getLsbD 4 = iw.getLsbD 4)
    (h₃ : iw'.getLsbD 3 = iw.getLsbD 3) (h₂ : iw'.getLsbD 2 = iw.getLsbD 2) :
    (rotSlotStep iw' s').out.dir = (rotSlotStep iw s).out.dir := by
  simp only [rotSlotStep, h₄, h₃, h₂]
  split
  · rw [rotStep_dir, rotStep_dir, hs]
  · rfl

/-- Words that agree in `rst` and the ROT slot agree in each bit of them. -/
theorem getLsbD_of_extractLsb'_eq {iw iw' : StepWord}
    (h : iw'.extractLsb' 2 4 = iw.extractLsb' 2 4) {i : Nat} (hi : i < 4) :
    iw'.getLsbD (2 + i) = iw.getLsbD (2 + i) := by
  simpa [BitVec.getLsbD_extractLsb', hi] using congrArg (BitVec.getLsbD · i) h

/-- Settles O55: RESET gives the same to both states, and in any other cycle the new state number and
`dir` are functions of the old state number and the ROT slot. -/
theorem decoderIsIndependentOfTheSwitch : Obligations.DecoderIsIndependentOfTheSwitch := by
  intro s s' hlegal hlegal' hstate hword
  refine ⟨nextState s, nextState s', step_eq_nextState hlegal, step_eq_nextState hlegal', ?_⟩
  have h₂ := getLsbD_of_extractLsb'_eq hword (i := 0) (by decide)
  have h₃ := getLsbD_of_extractLsb'_eq hword (i := 1) (by decide)
  have h₄ := getLsbD_of_extractLsb'_eq hword (i := 2) (by decide)
  have h₅ := getLsbD_of_extractLsb'_eq hword (i := 3) (by decide)
  cases hrst : s.nextInput.iw.getLsbD 5 with
  | true =>
    rw [nextState_of_rst hrst, nextState_of_rst (h₅.trans hrst)]
    exact ⟨rfl, rfl⟩
  | false =>
    have hrst' := h₅.trans hrst
    constructor
    · rw [nextState_currentState hrst, nextState_currentState hrst', hstate]
      simp only [acceptReading, h₂, h₃, h₄]
    · rw [nextState_of_not_rst hrst, nextState_of_not_rst hrst']
      simpa using rotSlotStep_dir_congr (s := s.startCycle) (s' := s'.startCycle) hstate h₄ h₃ h₂

end Sys2Proof.Machine
end

section
/-! The switch over a run (R20 I2, R90, R97, R99, R121): its events alternate, it does not depend on the
decoder, and nothing happens without a strobe. -/

namespace Sys2Proof.Machine

open Sys2Proof.Safety

/-- The switch event of a cycle without RESET against the press state before and after it: none, and the
state is kept; a press of a released switch; a release, long or not, of a pressed one (R97). -/
theorem nextState_swEvent_cases {s : State} (h : s.nextInput.iw.getLsbD 5 = false) :
    ((nextState s).out.swEvent = none ∧ (nextState s).isPressed = s.isPressed) ∨
    ((nextState s).out.swEvent = some { name := .normal, kind := .pressed } ∧
      s.isPressed = false ∧ (nextState s).isPressed = true) ∨
    ((nextState s).out.swEvent = some { name := .long, kind := .longPressed } ∧
      s.isPressed = true ∧ (nextState s).isPressed = false) ∨
    ((nextState s).out.swEvent = some { name := .normal, kind := .released } ∧
      s.isPressed = true ∧ (nextState s).isPressed = false) := by
  rw [nextState_of_not_rst h]
  have hp : (rotSlotStep s.nextInput.iw s.startCycle).isPressed = s.isPressed := by simp
  generalize rotSlotStep s.nextInput.iw s.startCycle = u at hp ⊢
  rw [← hp]
  cases hstb : s.nextInput.iw.getLsbD 1 with
  | false => simp [swSlotStep_of_no_strobe hstb]
  | true =>
    simp only [swSlotStep, hstb, if_true]
    rcases switchStep_cases (s.nextInput.iw.getLsbD 0) s.nextInput.now u with
      ⟨-, e⟩ | ⟨-, -, e⟩ | ⟨-, -, -, hu, e⟩ | ⟨-, -, -, hu, -, e⟩ | ⟨-, -, -, hu, -, e⟩ |
      ⟨-, -, -, e⟩ <;> rw [e]
    · exact .inl ⟨rfl, rfl⟩
    · exact .inl ⟨rfl, rfl⟩
    · exact .inr (.inl ⟨rfl, hu, rfl⟩)
    · exact .inr (.inr (.inl ⟨rfl, hu, rfl⟩))
    · exact .inr (.inr (.inr ⟨rfl, hu, rfl⟩))
    · exact .inl ⟨rfl, rfl⟩

theorem switchEvents_succ {s : State} (h : s.cfg.legal = true) (k : Nat) :
    switchEvents (k + 1) s =
      ((nextState s).out.swEvent.map SwEvent.kind).toList ++ switchEvents k (nextState s) := by
  rw [switchEvents, statesAfter_succ h, List.filterMap_cons]
  cases (nextState s).out.swEvent <;> rfl

/-- Settles O48, by induction on the length of the run: a cycle's event is one the press state before it
allows, and the press state after it is the one the next event is judged by. -/
theorem switchEventsAlternate : Obligations.SwitchEventsAlternate := by
  intro k
  induction k with
  | zero => exact fun s _ _ => by simp [switchEvents, statesAfter, alternates]
  | succ k ih =>
    intro s hlegal hreset
    have hrest := ih (nextState s) (by simpa using hlegal) (noReset_nextState hreset)
    rw [switchEvents_succ hlegal]
    rcases nextState_swEvent_cases (rst_of_noReset hreset) with
      ⟨he, hp⟩ | ⟨he, hbefore, hafter⟩ | ⟨he, hbefore, hafter⟩ | ⟨he, hbefore, hafter⟩
    · rw [he, ← hp]
      exact hrest
    all_goals
      rw [hafter] at hrest
      simpa [he, hbefore, alternates] using hrest

/-- Settles O54: RESET gives the same to both states, and in any other cycle the ROT slot leaves both with
the same switch fields for the SW slot. -/
theorem switchIsIndependentOfTheDecoder : Obligations.SwitchIsIndependentOfTheDecoder := by
  intro s s' hlegal hcfg hswitch h₅ h₁ h₀ hnow
  have hlegal' : s'.cfg.legal = true := by rw [hcfg, hlegal]
  refine ⟨nextState s, nextState s', step_eq_nextState hlegal, step_eq_nextState hlegal', ?_⟩
  cases hrst : s.nextInput.iw.getLsbD 5 with
  | true =>
    rw [nextState_of_rst hrst, nextState_of_rst (h₅.trans hrst)]
    exact ⟨⟨rfl, rfl, rfl, rfl⟩, rfl⟩
  | false =>
    rw [nextState_of_not_rst hrst, nextState_of_not_rst (h₅.trans hrst), hnow,
      swSlotStep_word_congr h₁ h₀]
    exact swSlotStep_congr _ _ (by simpa using hcfg) (by simpa [SameSwitch] using hswitch)

/-- A cycle without strobes keeps the five fields and shows no event (R22, R83, R99). -/
theorem nextState_of_no_strobe {s : State} (h₅ : s.nextInput.iw.getLsbD 5 = false)
    (h₄ : s.nextInput.iw.getLsbD 4 = false) (h₁ : s.nextInput.iw.getLsbD 1 = false) :
    SameBlock s (nextState s) ∧ NoEvent (nextState s) := by
  rw [nextState_of_not_rst h₅, swSlotStep_of_no_strobe h₁, rotSlotStep_of_no_strobe h₄]
  exact ⟨⟨rfl, rfl, rfl, rfl, rfl⟩, noEvent_of_ports rfl rfl rfl⟩

theorem sameBlock_trans {s t u : State} (hst : SameBlock s t) (htu : SameBlock t u) :
    SameBlock s u := by
  obtain ⟨hc, hp, ha, hl, hv⟩ := hst
  obtain ⟨hc', hp', ha', hl', hv'⟩ := htu
  exact ⟨hc'.trans hc, hp'.trans hp, ha'.trans ha, hl'.trans hl, hv'.trans hv⟩

/-- Settles O49, by induction on the length of the run. -/
theorem timeAloneDoesNothing : Obligations.TimeAloneDoesNothing := by
  intro k
  induction k with
  | zero => exact fun s _ _ => ⟨rfl, fun t ht => absurd ht List.not_mem_nil⟩
  | succ k ih =>
    intro s hlegal hstrobe
    obtain ⟨h₅, h₄, h₁⟩ := strobes_of_noStrobe hstrobe
    obtain ⟨hsame, hno⟩ := nextState_of_no_strobe h₅ h₄ h₁
    obtain ⟨hlen, hrest⟩ := ih (nextState s) (by simpa using hlegal) (noStrobe_nextState hstrobe)
    rw [statesAfter_succ hlegal]
    refine ⟨by rw [List.length_cons, hlen], List.forall_mem_cons.mpr ⟨⟨hsame, hno⟩, ?_⟩⟩
    intro t ht
    obtain ⟨ht₁, ht₂⟩ := hrest t ht
    exact ⟨sameBlock_trans hsame ht₁, ht₂⟩

end Sys2Proof.Machine
end

section
/-! The invariant of the state (R20 I3 to I5, R10, R52, R119): RESET, the ROT slot and each outcome of the
SW step keep it. -/

namespace Sys2Proof.Machine

open Sys2Proof.Safety

/-- The invariant speaks of the constants and the switch fields only. -/
theorem consistent_congr {s t : State} (hc : t.cfg = s.cfg) (h : SameSwitch s t)
    (hs : Consistent s) : Consistent t := by
  obtain ⟨hp, ha, hl, hv⟩ := h
  simpa only [Consistent, TimestampsFit, PressedIsValid, ReleasedIsCleared, InvalidIsReset,
    NoSwitchIsReset, hc, hp, ha, hl, hv] using hs

/-- RESET answers a consistent state from any state of a legal configuration. -/
theorem consistent_resetStep {s : State} (h : s.cfg.legal = true) : Consistent (resetStep s) :=
  ⟨h, ⟨Nat.two_pow_pos _, Nat.two_pow_pos _⟩, fun hp => Bool.noConfusion hp, fun _ => rfl,
    fun _ => ⟨rfl, rfl, rfl⟩, fun _ => ⟨rfl, rfl, rfl, rfl⟩⟩

/-- A recorded edge makes I5 and the clause of R119 vacuous on a device with a switch, so only the
timestamps, I3 and I4 are left to an accepted edge. -/
theorem consistent_of_edge {t : State} (hlegal : t.cfg.legal = true) (hsw : t.cfg.swPresent = true)
    (hv : t.lastValid = true) (hfit : TimestampsFit t) (hclear : ReleasedIsCleared t) :
    Consistent t :=
  ⟨hlegal, hfit, fun _ => hv, hclear, by simp [InvalidIsReset, hv], by simp [NoSwitchIsReset, hsw]⟩

theorem consistent_switchStep (l : Bool) (now : Nat) {s : State} (hs : Consistent s) :
    Consistent (switchStep l now s) := by
  have keep : Consistent (s.setSwEvent none) := consistent_congr rfl ⟨rfl, rfl, rfl, rfl⟩ hs
  obtain ⟨hlegal, ⟨hstart, -⟩, -, hclear, -, -⟩ := hs
  have hnow := truncW_lt s.cfg.tsWidth now
  rcases switchStep_cases l now s with
    ⟨-, e⟩ | ⟨-, -, e⟩ | ⟨hsw, -, -, -, e⟩ | ⟨hsw, -, -, -, -, e⟩ | ⟨hsw, -, -, -, -, e⟩ |
    ⟨hsw, -, -, e⟩ <;> rw [e]
  · exact keep
  · exact keep
  · exact consistent_of_edge hlegal hsw rfl ⟨hnow, hnow⟩ (fun hp => Bool.noConfusion hp)
  · exact consistent_of_edge hlegal hsw rfl ⟨Nat.two_pow_pos _, hnow⟩ (fun _ => rfl)
  · exact consistent_of_edge hlegal hsw rfl ⟨Nat.two_pow_pos _, hnow⟩ (fun _ => rfl)
  · exact consistent_of_edge hlegal hsw rfl ⟨hstart, hnow⟩ hclear

theorem consistent_swSlotStep (iw : StepWord) (now : Nat) {s : State} (hs : Consistent s) :
    Consistent (swSlotStep iw now s) := by
  unfold swSlotStep
  split
  · exact consistent_switchStep _ now hs
  · exact consistent_congr rfl ⟨rfl, rfl, rfl, rfl⟩ hs

theorem consistent_nextState {s : State} (hs : Consistent s) : Consistent (nextState s) := by
  have hstart : Consistent s.startCycle := consistent_congr rfl (startCycle_sameSwitch s) hs
  cases hrst : s.nextInput.iw.getLsbD 5 with
  | true =>
    obtain ⟨hlegal, -⟩ := hstart
    rw [nextState_of_rst hrst]
    exact consistent_resetStep hlegal
  | false =>
    rw [nextState_of_not_rst hrst]
    exact consistent_swSlotStep _ _ (consistent_congr (by simp) (rotSlotStep_sameSwitch _ _) hstart)

/-- Settles O58. -/
theorem everyStepKeepsTheStateConsistent : Obligations.EveryStepKeepsTheStateConsistent := by
  intro s hs
  have ⟨hlegal, _⟩ := hs
  exact ⟨nextState s, step_eq_nextState hlegal, consistent_nextState hs⟩

/-- Settles O59: the state after reset is, in the fields the invariant speaks of, what RESET makes of
it. -/
theorem stateAfterResetIsConsistent : Obligations.StateAfterResetIsConsistent :=
  consistent_congr (s := resetStep State.reset) rfl ⟨rfl, rfl, rfl, rfl⟩
    (consistent_resetStep (by decide))

end Sys2Proof.Machine
end

section
/-! What every operation and every step keeps (R17, R19, R125), and what RESET leads to (R140 to R143). -/

namespace Sys2Proof.Machine

open Sys2Proof.Safety

theorem sameSetting_ite {p : Prop} [Decidable p] {s t : State} (h : SameSetting s t) :
    SameSetting s (if p then t else s) := by
  split
  · exact h
  · exact ⟨rfl, rfl, rfl, rfl⟩

theorem rotStep_sameSetting (clk dt : Bool) (s : State) : SameSetting s (rotStep clk dt s) := by
  obtain ⟨v, d, e, h⟩ := rotStep_shape clk dt s
  rw [h]
  exact ⟨rfl, rfl, rfl, rfl⟩

theorem switchStep_sameSetting (l : Bool) (now : Nat) (s : State) :
    SameSetting s (switchStep l now s) := by
  obtain ⟨q, a, b, v, e, h⟩ := switchStep_shape l now s
  rw [h]
  exact ⟨rfl, rfl, rfl, rfl⟩

/-- Settles O8: each operation answers a next state, and what it writes lies outside the setting. A cell,
a SW outcome and a mux outcome write under a condition, the slot operations through their shared step. -/
theorem everyOperationCompletes : Obligations.EveryOperationCompletes := by
  intro i s
  cases i with
  | reset => exact ⟨_, rfl, resetStep_sameSetting s⟩
  | rotNop | swNop => exact ⟨_, rfl, rfl, rfl, rfl, rfl⟩
  | rot00 | rot01 | rot10 | rot11 => exact ⟨_, rfl, rotStep_sameSetting _ _ s⟩
  | swL0 now | swL1 now => exact ⟨_, rfl, switchStep_sameSetting _ now s⟩
  | qdt00 | qdt01 | qdt02 | qdt03 | qdt10 | qdt11 | qdt12 | qdt13
  | qdt20 | qdt21 | qdt22 | qdt23 | qdt30 | qdt31 | qdt32 | qdt33
  | swDiscard l now | swPress l now | swRelease l now | swLong l now | swRefresh l now
  | muxActive | muxShifted | muxSuppress | muxNone =>
    exact ⟨_, rfl, sameSetting_ite ⟨rfl, rfl, rfl, rfl⟩⟩

/-- A cycle starts alike in two states that differ in their ports only: the ports are written afresh. -/
theorem startCycle_congr {s s' : State} (hcfg : s'.cfg = s.cfg) (h : SameBlock s s')
    (hinputs : s'.inputs = s.inputs) : s'.startCycle = s.startCycle := by
  obtain ⟨hc, hp, ha, hl, hv⟩ := h
  simp only [State.startCycle, State.atomicReadPressed, hcfg, hinputs, hc, hp, ha, hl, hv]

theorem step_congr {s s' : State} (hcfg : s'.cfg = s.cfg) (h : SameBlock s s')
    (hinputs : s'.inputs = s.inputs) : step s' = step s := by
  have hnext : s'.nextInput = s.nextInput := by simp only [State.nextInput, hinputs]
  rw [step, step, hcfg, hnext, startCycle_congr hcfg h hinputs]

/-- Settles O12: the first step is the same, so the runs are. -/
theorem outputsHoldNothingBetweenSteps : Obligations.OutputsHoldNothingBetweenSteps := by
  intro k s s' hcfg hsame hinputs
  have hstep : core.step s' = core.step s := step_congr hcfg hsame hinputs
  simp only [Host.Core.run, hstep]

/-- Settles O13. -/
theorem stepKeepsTheConfiguration : Obligations.StepKeepsTheConfiguration := by
  intro s t hstep
  obtain ⟨-, rfl⟩ := step_eq_next hstep
  exact ⟨nextState_cfg s, nextState_inputs s⟩

/-- Settles O18. -/
theorem stateAfterResetIsAllZero : Obligations.StateAfterResetIsAllZero :=
  ⟨rfl, rfl, rfl, rfl, rfl⟩

/-- Settles O16. -/
theorem resetOperationClearsTheFiveFields : Obligations.ResetOperationClearsTheFiveFields :=
  fun s => ⟨resetStep s, rfl, rfl, rfl, rfl, rfl, rfl, noEvent_resetStep s, resetStep_sameSetting s⟩

/-- Settles O17: with `rst` = 1 the cycle is RESET alone, whatever stands in the slots. -/
theorem resetWinsOverBothSlots : Obligations.ResetWinsOverBothSlots := by
  intro s c rest hlegal hinputs hrst
  have hnext : nextState s = resetStep s.startCycle :=
    nextState_of_rst (by rw [nextInput_of_inputs_cons hinputs, hrst])
  have hrest : (nextState s).inputs = rest := by rw [nextState_inputs, hinputs, List.tail_cons]
  refine ⟨nextState s, step_eq_nextState hlegal, ?_⟩
  rw [hnext] at hrest ⊢
  exact ⟨rfl, rfl, rfl, rfl, rfl, noEvent_resetStep _, hrest, rfl⟩

/-- An operation that comes to an accepted press has the result of R94. -/
theorem swResult_of_pressEdge {i : Instr} {s : State} {now : Nat}
    (h : exec i s = .next (pressEdge now s)) : SwResult i s true now now true true false 0b01 :=
  ⟨_, h, rfl, rfl, rfl, rfl, ⟨rfl, rfl, rfl⟩, rfl, ⟨rfl, rfl⟩, ⟨rfl, rfl, rfl, rfl⟩⟩

/-- An operation that comes to a duplicate outside the window has the result of R96. -/
theorem swResult_of_refreshEdge {i : Instr} {s : State} {now : Nat}
    (h : exec i s = .next (refreshEdge now s)) :
    SwResult i s s.isPressed s.pressStartedAt now true false false 0b00 :=
  ⟨_, h, rfl, rfl, rfl, rfl, ⟨rfl, rfl, rfl⟩, rfl, ⟨rfl, rfl⟩, ⟨rfl, rfl, rfl, rfl⟩⟩

/-- No reading gives a Direction in state 0: a Direction stands for a return to it (R65). -/
theorem rotStep_dir_of_rest (clk dt : Bool) {s : State} (h : s.currentState = 0) :
    (rotStep clk dt s).out.dir = .none := by
  rw [rotStep_dir, h]
  revert clk dt; decide

/-- A ROT step judged against state 0 accepts the pairs with one line high and keeps state 0 otherwise. -/
theorem exec_rotOp_of_rest (clk dt : Bool) {s : State} (h : s.currentState = 0) :
    ∃ t, exec (rotOp clk dt) s = .next t ∧
      t.currentState = (if clk != dt then stateOfPair clk dt else 0) ∧ t.out.dir = .none := by
  refine ⟨_, exec_rotOp clk dt s, ?_, rotStep_dir_of_rest clk dt h⟩
  rw [rotStep_currentState, h]
  revert clk dt; decide

/-- Settles O19: with no accepted edge every `now` is outside the window, and the decoder is in
state 0. -/
theorem firstStepsAfterResetAreJudgedFromRest : Obligations.FirstStepsAfterResetAreJudgedFromRest := by
  intro s hstate hpressed hstart _ hvalid
  refine ⟨fun hsw l now => ⟨fun hl => ?_, fun hl => ?_⟩, exec_rotOp_of_rest false true hstate,
    exec_rotOp_of_rest true false hstate, exec_rotOp_of_rest false false hstate,
    exec_rotOp_of_rest true true hstate⟩
  · apply swResult_of_pressEdge
    rw [exec_swOp, switchStep_press hsw (.inl hvalid) hl hpressed]
  · have hexec : exec (swOp l now) s = .next (refreshEdge (portNow s now) s) := by
      rw [exec_swOp, switchStep_refresh hsw (.inl hvalid) (by simp [hl, hpressed])]
    simpa only [hpressed, hstart] using swResult_of_refreshEdge hexec

end Sys2Proof.Machine
end

section
/-! The two slots of one cycle (R34, R115): each sub-block goes as if the other slot were empty. -/

namespace Sys2Proof.Machine

open Sys2Proof.Safety

/-- The ROT slot reads three bits of the word. -/
theorem rotSlotStep_word_congr {iw iw' : StepWord} (h₄ : iw'.getLsbD 4 = iw.getLsbD 4)
    (h₃ : iw'.getLsbD 3 = iw.getLsbD 3) (h₂ : iw'.getLsbD 2 = iw.getLsbD 2) (s : State) :
    rotSlotStep iw' s = rotSlotStep iw s := by
  simp only [rotSlotStep, h₄, h₃, h₂]

/-- A mask keeps the bits that are set in it. -/
theorem getLsbD_and_of_mask {iw mask : StepWord} {i : Nat} (h : mask.getLsbD i = true) :
    (iw &&& mask).getLsbD i = iw.getLsbD i := by
  rw [BitVec.getLsbD_and, h, Bool.and_true]

/-- `0x3C` clears the SW slot of a word and keeps what the ROT slot reads. -/
theorem rotSlotStep_clearSwSlot (iw : StepWord) (s : State) :
    rotSlotStep (iw &&& 0x3C) s = rotSlotStep iw s :=
  rotSlotStep_word_congr (getLsbD_and_of_mask (by decide)) (getLsbD_and_of_mask (by decide))
    (getLsbD_and_of_mask (by decide)) s

/-- `0x23` clears the ROT slot of a word and keeps what the SW slot reads. -/
theorem swSlotStep_clearRotSlot (iw : StepWord) (now : Nat) (s : State) :
    swSlotStep (iw &&& 0x23) now s = swSlotStep iw now s :=
  swSlotStep_word_congr (getLsbD_and_of_mask (by decide)) (getLsbD_and_of_mask (by decide)) now s

/-- What a cycle starts from does not depend on the inputs presented in it. -/
theorem startCycle_of_presented {s : State} {c : InputCycle} {rest : List InputCycle}
    (h : s.inputs.tail = rest) : State.startCycle { s with inputs := c :: rest } = s.startCycle := by
  subst h
  rfl

/-- Spells out a cycle without RESET in which `iw` and `now` are presented instead of the coming inputs. -/
theorem nextState_of_presented {s : State} {iw : StepWord} {now : Nat} {rest : List InputCycle}
    (h : s.inputs.tail = rest) (hrst : iw.getLsbD 5 = false) :
    nextState { s with inputs := ⟨iw, now⟩ :: rest } =
      swSlotStep iw now (rotSlotStep iw s.startCycle) := by
  have hnext : State.nextInput { s with inputs := ⟨iw, now⟩ :: rest } = ⟨iw, now⟩ :=
    nextInput_of_inputs_cons rfl
  rw [nextState_of_not_rst (by rw [hnext, hrst]), hnext, startCycle_of_presented h]

/-- What the ROT slot has written stands after the SW slot, whatever the latter's word and `now`. -/
theorem swSlotStep_keeps_rotation (iw iw' : StepWord) (now now' : Nat) (s : State) :
    (swSlotStep iw now s).currentState = (swSlotStep iw' now' s).currentState ∧
      SameRotPorts (swSlotStep iw' now' s) (swSlotStep iw now s) := by
  simp [SameRotPorts]

/-- What the SW slot does to the switch is the same whatever word the ROT slot before it has. -/
theorem swSlotStep_after_rotSlotStep (iw iw₁ iw₂ : StepWord) (now : Nat) (s : State) :
    SameSwitch (swSlotStep iw now (rotSlotStep iw₁ s)) (swSlotStep iw now (rotSlotStep iw₂ s)) ∧
      (swSlotStep iw now (rotSlotStep iw₂ s)).out.swEvent =
        (swSlotStep iw now (rotSlotStep iw₁ s)).out.swEvent :=
  swSlotStep_congr iw now (by simp) (by simp [SameSwitch])

/-- Settles O53: the three cycles start from the same state, and each cleared cycle differs from the full
one in the word of the other slot only. The ROT slot runs first, so no SW slot is seen by it; the SW slot
reads only fields that no ROT slot writes. -/
theorem sameCycleSlotsDoNotInterfere : Obligations.SameCycleSlotsDoNotInterfere := by
  intro s c rest hlegal hinputs hrst
  have htail : s.inputs.tail = rest := by rw [hinputs, List.tail_cons]
  have hfull : nextState s = swSlotStep c.iw c.now (rotSlotStep c.iw s.startCycle) := by
    have hnext := nextInput_of_inputs_cons hinputs
    rw [nextState_of_not_rst (by rw [hnext, hrst]), hnext]
  have hrot : nextState { s with inputs := ⟨c.iw &&& 0x3C, c.now⟩ :: rest } =
      swSlotStep (c.iw &&& 0x3C) c.now (rotSlotStep c.iw s.startCycle) := by
    have hrst' : (c.iw &&& 0x3C).getLsbD 5 = false := by rw [getLsbD_and_of_mask (by decide), hrst]
    rw [nextState_of_presented htail hrst', rotSlotStep_clearSwSlot]
  have hsw : nextState { s with inputs := ⟨c.iw &&& 0x23, c.now⟩ :: rest } =
      swSlotStep c.iw c.now (rotSlotStep (c.iw &&& 0x23) s.startCycle) := by
    have hrst' : (c.iw &&& 0x23).getLsbD 5 = false := by rw [getLsbD_and_of_mask (by decide), hrst]
    rw [nextState_of_presented htail hrst', swSlotStep_clearRotSlot]
  refine ⟨_, _, _, step_eq_nextState hlegal, step_eq_nextState hlegal, step_eq_nextState hlegal, ?_⟩
  rw [hfull, hrot, hsw]
  obtain ⟨hstate, hports⟩ :=
    swSlotStep_keeps_rotation c.iw (c.iw &&& 0x3C) c.now c.now (rotSlotStep c.iw s.startCycle)
  exact ⟨hstate, hports, swSlotStep_after_rotSlotStep c.iw (c.iw &&& 0x23) c.iw c.now s.startCycle⟩

end Sys2Proof.Machine
end

section
/-! The decoder and the encoder of step words against each other (R41, R49 to R51, R53): each slot by
itself, and a word as the two slots laid over each other. -/

namespace Sys2Proof.Machine

open Sys2Proof.Safety

/-! What fills a slot, and its word. -/

theorem eq_reset_of_slot {i : Instr} (h : i.slot = some .reset) : i = .reset := by
  cases i with
  | reset => rfl
  | _ => simp [Instr.slot] at h

/-- An operation of the ROT slot is the one of no strobe or that of a pair. -/
theorem eq_rotOp_of_slot {i : Instr} (h : i.slot = some .rot) :
    i = .rotNop ∨ ∃ clk dt, i = rotOp clk dt := by
  cases i with
  | rotNop => exact .inl rfl
  | rot00 => exact .inr ⟨false, false, rfl⟩
  | rot01 => exact .inr ⟨false, true, rfl⟩
  | rot10 => exact .inr ⟨true, false, rfl⟩
  | rot11 => exact .inr ⟨true, true, rfl⟩
  | _ => simp [Instr.slot] at h

/-- An operation of the SW slot is the one of no strobe or that of a raw level. -/
theorem eq_swOp_of_slot {i : Instr} (h : i.slot = some .sw) :
    i = .swNop ∨ ∃ l now, i = swOp l now := by
  cases i with
  | swNop => exact .inl rfl
  | swL0 now => exact .inr ⟨false, now, rfl⟩
  | swL1 now => exact .inr ⟨true, now, rfl⟩
  | _ => simp [Instr.slot] at h

theorem swOp_now (l : Bool) (now : Nat) : (swOp l now).now = now := by cases l <;> rfl

theorem encode_rotOp (clk dt : Bool) :
    encode (rotOp clk dt) = stepWord false true clk dt false false := by
  cases clk <;> cases dt <;> rfl

theorem encode_swOp (l : Bool) (now : Nat) :
    encode (swOp l now) = stepWord false false false false true l := by
  cases l <;> rfl

/-- The operation of the ROT slot is read back from its own word. -/
theorem decodeRotSlot_encode {i : Instr} (h : i.slot = some .rot) :
    decodeRotSlot (encode i) = i := by
  obtain rfl | ⟨clk, dt, rfl⟩ := eq_rotOp_of_slot h
  · rfl
  · rw [encode_rotOp]
    revert clk dt; decide

theorem decodeSwSlot_encode_swNop (now : Nat) : decodeSwSlot (encode .swNop) now = .swNop := rfl

/-- The operation of a SW strobe is read back from its own word and its operand. -/
theorem decodeSwSlot_encode_swOp (l : Bool) (now : Nat) :
    decodeSwSlot (encode (swOp l now)) now = swOp l now := by
  have bits : ∀ l, (stepWord false false false false true l).getLsbD 1 = true ∧
      (stepWord false false false false true l).getLsbD 0 = l := by decide
  obtain ⟨h₁, h₀⟩ := bits l
  rw [encode_swOp, decodeSwSlot_eq, if_pos h₁, h₀]

/-- The word of a ROT operation leaves `rst` and the SW slot 0. -/
theorem encode_and_of_rot {i : Instr} (h : i.slot = some .rot) : encode i &&& 0x23 = 0 := by
  obtain rfl | ⟨clk, dt, rfl⟩ := eq_rotOp_of_slot h
  · rfl
  · rw [encode_rotOp]
    revert clk dt; decide

/-- The word of a SW operation leaves `rst` and the ROT slot 0. -/
theorem encode_and_of_sw {i : Instr} (h : i.slot = some .sw) : encode i &&& 0x3C = 0 := by
  obtain rfl | ⟨l, now, rfl⟩ := eq_swOp_of_slot h
  · rfl
  · rw [encode_swOp]
    clear h
    revert l; decide

/-! A word made of two. -/

/-- Where a mask finds nothing set, each of its bits is clear. -/
theorem getLsbD_of_and_eq_zero {w mask : StepWord} (h : w &&& mask = 0) {k : Nat}
    (hk : mask.getLsbD k = true) : w.getLsbD k = false := by
  rw [← getLsbD_and_of_mask hk, h, BitVec.ofNat_eq_ofNat, BitVec.getLsbD_zero]

/-- A word whose ROT slot comes from `u` and whose SW slot comes from `v` decodes slot by slot. -/
theorem decodeWord_or {u v : StepWord} (hu : u &&& 0x23 = 0) (hv : v &&& 0x3C = 0) (now : Nat) :
    decodeWord (u ||| v) now = [decodeRotSlot u, decodeSwSlot v now] := by
  have u₅ := getLsbD_of_and_eq_zero hu (k := 5) (by decide)
  have u₁ := getLsbD_of_and_eq_zero hu (k := 1) (by decide)
  have u₀ := getLsbD_of_and_eq_zero hu (k := 0) (by decide)
  have v₅ := getLsbD_of_and_eq_zero hv (k := 5) (by decide)
  have v₄ := getLsbD_of_and_eq_zero hv (k := 4) (by decide)
  have v₃ := getLsbD_of_and_eq_zero hv (k := 3) (by decide)
  have v₂ := getLsbD_of_and_eq_zero hv (k := 2) (by decide)
  rw [decodeWord_of_not_rst (by rw [BitVec.getLsbD_or, u₅, v₅, Bool.or_false])]
  simp only [decodeRotSlot, decodeSwSlot, BitVec.getLsbD_or, u₁, u₀, v₄, v₃, v₂, Bool.or_false,
    Bool.false_or]

theorem encodeCycle_singleton (i : Instr) : encodeCycle [i] = encode i := by simp [encodeCycle]

theorem encodeCycle_pair (i j : Instr) : encodeCycle [i, j] = encode i ||| encode j := by
  simp [encodeCycle]

theorem cycleNow_pair {i : Instr} (h : i.slot = some .rot) (j : Instr) :
    cycleNow [i, j] = j.now := by
  obtain rfl | ⟨clk, dt, rfl⟩ := eq_rotOp_of_slot h
  · simp [cycleNow, Instr.now]
  · cases clk <;> cases dt <;> simp [cycleNow, rotOp, Instr.now]

/-- A cycle's operations are RESET alone, or one of the ROT slot and one of the SW slot. -/
theorem cycleWf_cases {w : Nat} {ops : List Instr} (h : cycleWf w ops = true) :
    ops = [.reset] ∨ ∃ r t, ops = [r, t] ∧ r.slot = some .rot ∧ t.slot = some .sw := by
  unfold cycleWf at h
  split at h
  · rw [eq_reset_of_slot (eq_of_beq h)]
    exact .inl rfl
  · simp only [Bool.and_eq_true, beq_iff_eq] at h
    obtain ⟨⟨hr, ht⟩, -⟩ := h
    exact .inr ⟨_, _, rfl, hr, ht⟩
  · cases h

/-- The two operations of a cycle are read back from their joined word, for the `now` the SW operation
carries. -/
theorem decodeWord_encodeCycle_pair {r t : Instr} {now : Nat} (hr : r.slot = some .rot)
    (ht : t.slot = some .sw) (hnow : decodeSwSlot (encode t) now = t) :
    decodeWord (encodeCycle [r, t]) now = [r, t] := by
  rw [encodeCycle_pair, decodeWord_or (encode_and_of_rot hr) (encode_and_of_sw ht),
    decodeRotSlot_encode hr, hnow]

theorem decodeCell_encodeCell {i : Instr} (h : i.format = .cell) :
    decodeCell (encodeCell i) = i := by
  cases i with
  | qdt00 | qdt01 | qdt02 | qdt03 | qdt10 | qdt11 | qdt12 | qdt13
  | qdt20 | qdt21 | qdt22 | qdt23 | qdt30 | qdt31 | qdt32 | qdt33 => rfl
  | _ => simp [Instr.format] at h

/-- Settles O3: the two slots of a cycle occupy disjoint bits, so each is read back from the joined word as
from its own, and the cycle's `now` is the SW operation's operand. -/
theorem decodeOfEncodeGivesTheCycleBack : Obligations.DecodeOfEncodeGivesTheCycleBack := by
  refine ⟨fun w ops hwf => ?_, fun i hi => decodeCell_encodeCell hi⟩
  obtain rfl | ⟨r, t, rfl, hr, ht⟩ := cycleWf_cases hwf
  · rw [encodeCycle_singleton]
    exact decodeWord_of_rst (by decide) _
  · rw [cycleNow_pair hr]
    apply decodeWord_encodeCycle_pair hr ht
    obtain rfl | ⟨l, now, rfl⟩ := eq_swOp_of_slot ht
    · exact decodeSwSlot_encode_swNop _
    · rw [swOp_now]
      exact decodeSwSlot_encode_swOp l now

/-! The canonical spelling. -/

theorem encode_decodeRotSlot (iw : StepWord) :
    encode (decodeRotSlot iw) = if iw.getLsbD 4 then iw &&& 0x1C else 0 := by
  revert iw; decide

theorem encode_decodeSwSlot (iw : StepWord) (now : Nat) :
    encode (decodeSwSlot iw now) = if iw.getLsbD 1 then iw &&& 0x03 else 0 := by
  rw [decodeSwSlot_eq, apply_ite encode, encode_swOp]
  revert iw; decide

/-- The SW operation of a word is read back from that operation's own word. -/
theorem decodeSwSlot_encode_decodeSwSlot (iw : StepWord) (now : Nat) :
    decodeSwSlot (encode (decodeSwSlot iw now)) now = decodeSwSlot iw now := by
  rw [decodeSwSlot_eq iw]
  split
  · exact decodeSwSlot_encode_swOp _ now
  · exact decodeSwSlot_encode_swNop now

theorem encodeCycle_decodeWord (iw : StepWord) (now : Nat) :
    encodeCycle (decodeWord iw now) = canonicalWord iw := by
  unfold canonicalWord
  cases hrst : iw.getLsbD 5 with
  | true =>
    rw [decodeWord_of_rst hrst, encodeCycle_singleton]
    rfl
  | false =>
    rw [decodeWord_of_not_rst hrst, encodeCycle_pair, encode_decodeRotSlot, encode_decodeSwSlot]
    rfl

/-- Settles O4: the encoded slots are the canonical word's, and each is read back from it. -/
theorem encodeOfDecodeIsTheCanonicalSpelling : Obligations.EncodeOfDecodeIsTheCanonicalSpelling := by
  intro iw t
  refine ⟨encodeCycle_decodeWord iw t, ?_⟩
  rw [← encodeCycle_decodeWord iw t]
  cases hrst : iw.getLsbD 5 with
  | true =>
    rw [decodeWord_of_rst hrst, encodeCycle_singleton]
    exact decodeWord_of_rst (by decide) t
  | false =>
    rw [decodeWord_of_not_rst hrst]
    exact decodeWord_encodeCycle_pair (decodeRotSlot_slot iw) (decodeSwSlot_slot iw t)
      (decodeSwSlot_encode_decodeSwSlot iw t)

/-! Which operations a word holds. -/

theorem mem_decodeWord (i : Instr) (iw : StepWord) (now : Nat) :
    i ∈ decodeWord iw now ↔ iw.getLsbD 5 = true ∧ i = .reset ∨
      iw.getLsbD 5 = false ∧ (i = decodeRotSlot iw ∨ i = decodeSwSlot iw now) := by
  cases hrst : iw.getLsbD 5 with
  | true => simp [decodeWord_of_rst hrst]
  | false => simp [decodeWord_of_not_rst hrst]

theorem ne_of_slot_ne {i j : Instr} (h : i.slot ≠ j.slot) : i ≠ j := mt (congrArg Instr.slot) h

/-- A word holds RESET exactly when its `rst` bit is 1. -/
theorem reset_mem_decodeWord (iw : StepWord) (now : Nat) :
    .reset ∈ decodeWord iw now ↔ iw.getLsbD 5 = true := by
  have hr : .reset ≠ decodeRotSlot iw := ne_of_slot_ne (by rw [decodeRotSlot_slot]; decide)
  have ht : .reset ≠ decodeSwSlot iw now := ne_of_slot_ne (by rw [decodeSwSlot_slot]; decide)
  simp [mem_decodeWord, hr, ht]

/-- A word holds an operation of the ROT slot exactly when its ROT slot decodes to it. -/
theorem rot_mem_decodeWord {i : Instr} (h : i.slot = some .rot) (iw : StepWord) (now : Nat) :
    i ∈ decodeWord iw now ↔ iw.getLsbD 5 = false ∧ decodeRotSlot iw = i := by
  have hi : i ≠ .reset := ne_of_slot_ne (by rw [h]; decide)
  have ht : i ≠ decodeSwSlot iw now := ne_of_slot_ne (by rw [h, decodeSwSlot_slot]; decide)
  simp [mem_decodeWord, hi, ht, eq_comm (a := i)]

/-- A word holds an operation of the SW slot exactly when its SW slot decodes to it. -/
theorem sw_mem_decodeWord {i : Instr} (h : i.slot = some .sw) (iw : StepWord) (now : Nat) :
    i ∈ decodeWord iw now ↔ iw.getLsbD 5 = false ∧ decodeSwSlot iw now = i := by
  have hi : i ≠ .reset := ne_of_slot_ne (by rw [h]; decide)
  have hr : i ≠ decodeRotSlot iw := ne_of_slot_ne (by rw [h, decodeRotSlot_slot]; decide)
  simp [mem_decodeWord, hi, hr, eq_comm (a := i)]

theorem decodeSwSlot_eq_swNop (iw : StepWord) (now : Nat) :
    decodeSwSlot iw now = .swNop ↔ iw.getLsbD 1 = false := by
  unfold decodeSwSlot
  cases iw.getLsbD 1 <;> cases iw.getLsbD 0 <;> simp

theorem decodeSwSlot_eq_swOp (iw : StepWord) (l : Bool) (now : Nat) :
    decodeSwSlot iw now = swOp l now ↔ iw.getLsbD 1 = true ∧ iw.getLsbD 0 = l := by
  unfold decodeSwSlot
  cases iw.getLsbD 1 <;> cases iw.getLsbD 0 <;> cases l <;> simp [swOp]

theorem slots_decodeWord (iw : StepWord) (now : Nat) :
    (decodeWord iw now).map Instr.slot =
      if iw.getLsbD 5 then [some .reset] else [some .rot, some .sw] := by
  cases hrst : iw.getLsbD 5 with
  | true => simp [decodeWord_of_rst hrst, Instr.slot]
  | false => simp [decodeWord_of_not_rst hrst, decodeRotSlot_slot, decodeSwSlot_slot]

/-- Settles O2: membership is a condition on the bits of the operation's slot, and on the 64 words that
condition is the row's mask and match. -/
theorem wordHoldsAnOperationIffItMatchesItsRow :
    Obligations.WordHoldsAnOperationIffItMatchesItsRow := by
  intro iw t
  refine ⟨slots_decodeWord iw t, ?_⟩
  simp only [List.forall_mem_cons, List.not_mem_nil, false_imp_iff, implies_true, and_true]
  refine ⟨(reset_mem_decodeWord iw t).trans ?_, (rot_mem_decodeWord rfl iw t).trans ?_,
    (rot_mem_decodeWord rfl iw t).trans ?_, (rot_mem_decodeWord rfl iw t).trans ?_,
    (rot_mem_decodeWord rfl iw t).trans ?_, (rot_mem_decodeWord rfl iw t).trans ?_,
    (sw_mem_decodeWord rfl iw t).trans ((and_congr_right' (decodeSwSlot_eq_swNop iw t)).trans ?_),
    (sw_mem_decodeWord rfl iw t).trans ((and_congr_right' (decodeSwSlot_eq_swOp iw false t)).trans ?_),
    (sw_mem_decodeWord rfl iw t).trans ((and_congr_right' (decodeSwSlot_eq_swOp iw true t)).trans ?_)⟩
  all_goals revert iw; decide

/-- Settles O1: the two slots of each word are read off. -/
theorem spelledStepWordsDecode : Obligations.SpelledStepWordsDecode :=
  fun _ => ⟨rfl, rfl, rfl, rfl, rfl, rfl, rfl, rfl, rfl⟩

end Sys2Proof.Machine
end

section
/-! The cells of the transition table as the decoder (R49, R66 to R82), and the name selection as one of its
four outcomes (R111 to R113, R118). -/

namespace Sys2Proof.Machine

open Sys2Proof.Safety

/-! A cell by its entry of the table. -/

/-- The next state of the cell at an index: the upper half of its table entry (R49). -/
def cellNext (idx : CellIndex) : StateNumber := (transitionRom.getD idx.toNat 0).extractLsb' 2 2

/-- The Direction of the cell at an index: the one whose code is the lower half of its table entry
(R45, R49). -/
def cellDir (idx : CellIndex) : Direction :=
  if (transitionRom.getD idx.toNat 0).extractLsb' 0 2 = 0b01 then .clockwise
  else if (transitionRom.getD idx.toNat 0).extractLsb' 0 2 = 0b10 then .counterClockwise
  else .none

/-- The sixteen operations hold the sixteen entries of the table. -/
theorem exec_decodeCell (idx : CellIndex) (s : State) :
    exec (decodeCell idx) s =
      .next (applyCell (idx.extractLsb' 2 2) (cellNext idx) (cellDir idx) s) := by
  obtain ⟨n, hn, rfl⟩ : ∃ n < 16, idx = BitVec.ofNat 4 n :=
    ⟨idx.toNat, idx.isLt, by simp⟩
  interval_cases n <;> rfl

theorem exec_decodeCell_of_state {idx : CellIndex} {s : State}
    (h : s.currentState = idx.extractLsb' 2 2) :
    exec (decodeCell idx) s = .next ((s.setCurrentState (cellNext idx)).setDir (cellDir idx)) := by
  rw [exec_decodeCell, applyCell, if_pos h]

/-- Settles O5: a cell's next state and the code of its Direction are the two halves of its table
entry. -/
theorem cellsHoldTheConstantTable : Obligations.CellsHoldTheConstantTable := by
  intro idx s hstate
  refine ⟨_, exec_decodeCell_of_state hstate, ?_⟩
  have entry : ∀ idx : CellIndex,
      cellNext idx ++ directionCode (cellDir idx) = transitionRom.getD idx.toNat 0 := by decide
  exact entry idx

/-- The cell at `{current_state, reading}` does what the decoder does with the reading. -/
theorem exec_decodeCell_eq_decoderStep (clk dt : Bool) (s : State) :
    exec (decodeCell (cellIndex s.currentState (readingOf clk dt))) s =
      .next (decoderStep clk dt s) := by
  have entry : ∀ (v : StateNumber) (clk dt : Bool),
      v = (cellIndex v (readingOf clk dt)).extractLsb' 2 2 ∧
      cellNext (cellIndex v (readingOf clk dt)) =
        (if oneLineDiffers v clk dt then stateOfPair clk dt else v) ∧
      cellDir (cellIndex v (readingOf clk dt)) =
        (if oneLineDiffers v clk dt then
          if clk = false ∧ dt = false then
            if v = 2 then .clockwise else .counterClockwise
          else .none
        else .none) := by decide
  obtain ⟨hstate, hnext, hdir⟩ := entry s.currentState clk dt
  rw [exec_decodeCell_of_state hstate, hnext, hdir, decoderStep_eq]
  split <;> rfl

/-! The four outcomes of the name selection. -/

theorem exec_muxActive (s : State) :
    exec .muxActive s = .next (if s.out.dir ≠ .none ∧ s.atomicReadPressed = false then
      s.setRotEvent (some { name := .active, dir := s.out.dir }) else s) := rfl

theorem exec_muxShifted (s : State) :
    exec .muxShifted s =
      .next (if s.out.dir ≠ .none ∧ s.atomicReadPressed = true ∧ s.cfg.shiftEn = true then
        s.setRotEvent (some { name := .shifted, dir := s.out.dir }) else s) := rfl

theorem exec_muxSuppress (s : State) :
    exec .muxSuppress s =
      .next (if s.out.dir ≠ .none ∧ s.atomicReadPressed = true ∧ s.cfg.shiftEn = false then
        s.setRotEvent none else s) := rfl

theorem exec_muxNone (s : State) :
    exec .muxNone s = .next (if s.out.dir = .none then s.setRotEvent none else s) := rfl

/-- The name selection is one of the four outcomes, and the other three do nothing where it is taken. -/
theorem muxStep_is_one_outcome (s : State) :
    ∃ m ∈ muxOutcomes, exec m s = .next (muxStep s) ∧
      ∀ n ∈ muxOutcomes, n ≠ m → exec n s = .next s := by
  rcases muxStep_cases s with ⟨hd, e⟩ | ⟨hd, hp, e⟩ | ⟨hd, hp, hs, e⟩ | ⟨hd, hp, hs, e⟩ <;> rw [e]
  · exact ⟨.muxNone, by simp [muxOutcomes, exec_muxActive, exec_muxShifted, exec_muxSuppress,
      exec_muxNone, hd]⟩
  · exact ⟨.muxActive, by simp [muxOutcomes, exec_muxActive, exec_muxShifted, exec_muxSuppress,
      exec_muxNone, hd, hp]⟩
  · exact ⟨.muxShifted, by simp [muxOutcomes, exec_muxActive, exec_muxShifted, exec_muxSuppress,
      exec_muxNone, hd, hp, hs]⟩
  · exact ⟨.muxSuppress, by simp [muxOutcomes, exec_muxActive, exec_muxShifted, exec_muxSuppress,
      exec_muxNone, hd, hp, hs]⟩

/-- Settles O28: the cell is the decoder's part of the ROT step, and the name selection that follows is one
outcome. -/
theorem rotStepIsItsCellAndOneMuxOutcome : Obligations.RotStepIsItsCellAndOneMuxOutcome := by
  intro clk dt s
  obtain ⟨m, hm, htaken, hothers⟩ := muxStep_is_one_outcome (decoderStep clk dt s)
  refine ⟨decoderStep clk dt s, m, hm, exec_decodeCell_eq_decoderStep clk dt s, ?_, hothers⟩
  rw [exec_rotOp, htaken, rotStep]

end Sys2Proof.Machine
end

section
/-! What a cycle reads of its inputs (R51) and what stands on the ports after it (R40, R45 to R50). -/

namespace Sys2Proof.Machine

open Sys2Proof.Safety

/-! Ignored inputs. -/

/-- A device without a switch ignores the SW slot (R119). -/
theorem swSlotStep_of_no_switch {s : State} (h : s.cfg.swPresent = false) (iw : StepWord)
    (now : Nat) : swSlotStep iw now s = s.setSwEvent none := by
  simp [swSlotStep, switchStep, h]

/-- The ROT slot reads the levels only under its strobe. -/
theorem rotSlotStep_read_congr {iw iw' : StepWord} (h₄ : iw.getLsbD 4 = iw'.getLsbD 4)
    (h : iw.getLsbD 4 = true → iw.getLsbD 3 = iw'.getLsbD 3 ∧ iw.getLsbD 2 = iw'.getLsbD 2)
    (s : State) : rotSlotStep iw s = rotSlotStep iw' s := by
  cases hstb : iw.getLsbD 4 with
  | true =>
    obtain ⟨h₃, h₂⟩ := h hstb
    exact rotSlotStep_word_congr h₄ h₃ h₂ s
  | false => rw [rotSlotStep_of_no_strobe hstb, rotSlotStep_of_no_strobe (h₄.symm.trans hstb)]

/-- The SW slot is read only on a device with a switch, and the raw level and `now` only under its
strobe. -/
theorem swSlotStep_read_congr {c d : InputCycle} {s : State}
    (h : s.cfg.swPresent = true → c.iw.getLsbD 1 = d.iw.getLsbD 1 ∧
      (c.iw.getLsbD 1 = true → c.iw.getLsbD 0 = d.iw.getLsbD 0 ∧ c.now = d.now)) :
    swSlotStep c.iw c.now s = swSlotStep d.iw d.now s := by
  cases hsw : s.cfg.swPresent with
  | false => rw [swSlotStep_of_no_switch hsw, swSlotStep_of_no_switch hsw]
  | true =>
    obtain ⟨h₁, hread⟩ := h hsw
    cases hstb : c.iw.getLsbD 1 with
    | true =>
      obtain ⟨h₀, hnow⟩ := hread hstb
      rw [hnow, swSlotStep_word_congr h₁ h₀]
    | false => rw [swSlotStep_of_no_strobe hstb, swSlotStep_of_no_strobe (h₁.symm.trans hstb)]

/-- Two cycles that differ only in ignored inputs do the same: RESET reads nothing of the slots, and each
slot only what its strobe, and for the SW slot the switch, lets it read. -/
theorem cycleStep_read_congr {c d : InputCycle} {s : State}
    (h₅ : c.iw.getLsbD 5 = d.iw.getLsbD 5)
    (h : c.iw.getLsbD 5 = false →
      c.iw.getLsbD 4 = d.iw.getLsbD 4 ∧
      (c.iw.getLsbD 4 = true → c.iw.getLsbD 3 = d.iw.getLsbD 3 ∧ c.iw.getLsbD 2 = d.iw.getLsbD 2) ∧
      (s.cfg.swPresent = true → c.iw.getLsbD 1 = d.iw.getLsbD 1 ∧
        (c.iw.getLsbD 1 = true → c.iw.getLsbD 0 = d.iw.getLsbD 0 ∧ c.now = d.now))) :
    cycleStep c.iw c.now s = cycleStep d.iw d.now s := by
  cases hrst : c.iw.getLsbD 5 with
  | true => rw [cycleStep_of_rst hrst, cycleStep_of_rst (h₅.symm.trans hrst)]
  | false =>
    obtain ⟨h₄, hlevels, hsw⟩ := h hrst
    rw [cycleStep_of_not_rst hrst, cycleStep_of_not_rst (h₅.symm.trans hrst),
      rotSlotStep_read_congr h₄ hlevels]
    exact swSlotStep_read_congr (by simpa using hsw)

/-- A step in which `c` is presented, in a legal configuration or not. -/
theorem step_of_presented (s : State) (c : InputCycle) (rest : List InputCycle) :
    step { s with inputs := c :: rest } =
      if s.cfg.legal then
        .next (cycleStep c.iw c.now (State.startCycle { s with inputs := c :: rest }))
      else .refused .illegalConfiguration := by
  rw [step, runOps_decodeWord, nextInput_of_inputs_cons rfl]

/-- Settles O11: both cycles start from the same state, as the inputs presented are not part of it. -/
theorem ignoredInputsHaveNoEffect : Obligations.IgnoredInputsHaveNoEffect := by
  intro s c d rest h₅ hslots
  have hstart : State.startCycle { s with inputs := c :: rest } =
      State.startCycle { s with inputs := d :: rest } := rfl
  rw [step_of_presented, step_of_presented, hstart,
    cycleStep_read_congr (s := State.startCycle { s with inputs := d :: rest }) h₅ hslots]

/-! The observation outputs. -/

/-- Settles O14: what the cycle starts with on the observation outputs is written by no operation. -/
theorem observationOutputsShowTheRegisteredValues :
    Obligations.ObservationOutputsShowTheRegisteredValues := by
  intro s hlegal
  obtain ⟨-, -, hstate, hpressed⟩ :=
    cycleStep_sameSetting s.nextInput.iw s.nextInput.now s.startCycle
  exact ⟨nextState s, step_eq_nextState hlegal, hstate, hpressed⟩

/-! The event ports. -/

theorem directionCode_ne_three (d : Direction) : directionCode d ≠ 0b11 := by
  cases d <;> decide

/-- A rotation event never carries None (R111 to R113). -/
theorem rotStep_rotEvent_dir {clk dt : Bool} {s : State} {e : RotEvent}
    (h : (rotStep clk dt s).out.rotEvent = some e) : e.dir ≠ .none := by
  rw [rotStep_rotEvent] at h
  split at h
  · cases h
  · next hd =>
    split at h
    · cases h; exact hd
    · split at h
      · cases h; exact hd
      · cases h

theorem nextState_rotEvent_dir {s : State} {e : RotEvent}
    (h : (nextState s).out.rotEvent = some e) : e.dir ≠ .none := by
  cases hrst : s.nextInput.iw.getLsbD 5 with
  | true =>
    rw [nextState_of_rst hrst] at h
    cases h
  | false =>
    rw [nextState_of_not_rst hrst] at h
    obtain ⟨-, hports⟩ := swSlotStep_sameRotPorts s.nextInput.iw s.nextInput.now
      (rotSlotStep s.nextInput.iw s.startCycle)
    rw [hports] at h
    cases hstb : s.nextInput.iw.getLsbD 4 with
    | true =>
      rw [rotSlotStep, if_pos hstb] at h
      exact rotStep_rotEvent_dir h
    | false =>
      rw [rotSlotStep_of_no_strobe hstb] at h
      cases h

/-- A rotation port whose event carries a Direction shows one of the five triples of R48. -/
theorem rotPortShows_of_dir {t : State} (h : ∀ e, t.out.rotEvent = some e → e.dir ≠ .none) :
    RotPortShows t true false 0b01 ∨ RotPortShows t true false 0b10 ∨ RotPortShows t true true 0b01
      ∨ RotPortShows t true true 0b10 ∨ RotPortShows t false false 0b00 := by
  cases hev : t.out.rotEvent with
  | none => simp [RotPortShows, Ports.bits, hev]
  | some e =>
    obtain ⟨n, d⟩ := e
    cases d with
    | none => exact absurd rfl (h _ hev)
    | clockwise | counterClockwise =>
      cases n <;> simp [RotPortShows, Ports.bits, hev, rotNameCode, directionCode]

/-- What can stand on the switch event port: no event, or a kind under the one name it goes with (R48). -/
def LegalSwEvent (e : Option SwEvent) : Prop :=
  e = none ∨ e = some { name := .normal, kind := .pressed } ∨
    e = some { name := .normal, kind := .released } ∨ e = some { name := .long, kind := .longPressed }

/-- A RESET cycle shows no event, any other one of the SW step's. -/
theorem legalSwEvent_nextState (s : State) :
    LegalSwEvent (nextState s).out.swEvent := by
  cases hrst : s.nextInput.iw.getLsbD 5 with
  | true =>
    rw [nextState_of_rst hrst]
    exact .inl rfl
  | false =>
    rcases nextState_swEvent_cases hrst with ⟨he, -⟩ | ⟨he, -⟩ | ⟨he, -⟩ | ⟨he, -⟩ <;>
      simp [LegalSwEvent, he]

/-- Settles O15: the codes of the Directions and events that can stand on the ports are the listed
ones. -/
theorem onlyLegalPortCodesAreProduced : Obligations.OnlyLegalPortCodesAreProduced := by
  intro s hlegal
  refine ⟨nextState s, step_eq_nextState hlegal, directionCode_ne_three _,
    rotPortShows_of_dir fun e => nextState_rotEvent_dir, ?_⟩
  rcases legalSwEvent_nextState s with he | he | he | he <;>
    simp [SwPortShows, Ports.bits, he, swNameCode, switchEventCode]

/-! The callback calls. -/

theorem legalSwEvent_switchStep (l : Bool) (now : Nat) (s : State) :
    LegalSwEvent (switchStep l now s).out.swEvent := by
  rcases switchStep_cases l now s with ⟨-, e⟩ | ⟨-, -, e⟩ | ⟨-, -, -, -, e⟩ | ⟨-, -, -, -, -, e⟩ |
    ⟨-, -, -, -, -, e⟩ | ⟨-, -, -, e⟩ <;> rw [e]
  · exact .inl rfl
  · exact .inl rfl
  · exact .inr (.inl rfl)
  · exact .inr (.inr (.inr rfl))
  · exact .inr (.inr (.inl rfl))
  · exact .inl rfl

theorem rotStep_rotCallback (clk dt : Bool) (s : State) :
    (rotStep clk dt s).rotCallback =
      if (rotStep clk dt s).out.dir = .none then none
      else if s.atomicReadPressed = false then
        some (s.cfg.nameRotActive, (rotStep clk dt s).out.dir)
      else if s.cfg.shiftEn = true then some (s.cfg.nameRotShifted, (rotStep clk dt s).out.dir)
      else none := by
  obtain ⟨hcfg, -⟩ := rotStep_sameSetting clk dt s
  rw [State.rotCallback, rotStep_rotEvent, hcfg]
  split
  · rfl
  split
  · rfl
  split <;> rfl

/-- Settles O57: the rotation port is the name selection's, and each event of the SW step has a code of its
own. -/
theorem callbacksCarryTheConfiguredNames : Obligations.CallbacksCarryTheConfiguredNames := by
  refine ⟨fun clk dt s => ⟨_, exec_rotOp clk dt s, rotStep_rotCallback clk dt s⟩,
    fun l now s => ⟨_, exec_swOp l now s, ?_⟩⟩
  obtain ⟨hcfg, -⟩ := switchStep_sameSetting l now s
  rcases legalSwEvent_switchStep l now s with he | he | he | he <;>
    simp [Ports.bits, State.swCallback, he, hcfg, switchEventCode, swNameOf, payloadOf]

end Sys2Proof.Machine
end

section
/-! The ROT step against the pair it reads (R60 to R65, R83): which readings it accepts, the Direction of an
accepted one, and what it leaves unchanged. -/

namespace Sys2Proof.Machine

open Sys2Proof.Safety

/-! The Direction of a pair of state numbers. -/

theorem directionOf_self (v : StateNumber) : directionOf v v = .none := by
  revert v; decide

/-- Only a transition into state 0 has a Direction. -/
theorem directionOf_of_ne_zero (v : StateNumber) {w : StateNumber} (h : w ≠ 0) :
    directionOf v w = .none := by
  simp only [directionOf, h, false_and, if_false]

theorem directionOf_eq_clockwise (v w : StateNumber) :
    directionOf v w = .clockwise ↔ v = 2 ∧ w = 0 := by
  revert v w; decide

theorem directionOf_eq_counterClockwise (v w : StateNumber) :
    directionOf v w = .counterClockwise ↔ v = 1 ∧ w = 0 := by
  revert v w; decide

/-- A transition with a Direction changes the state and leaves it at 0 (R88). -/
theorem zero_and_ne_of_directionOf {v w : StateNumber} (h : directionOf v w ≠ .none) :
    w = 0 ∧ v ≠ w := by
  have hw : w = 0 := by
    by_contra hw
    exact h (directionOf_of_ne_zero v hw)
  refine ⟨hw, ?_⟩
  rintro rfl
  exact h (directionOf_self v)

/-! What a ROT step does with its reading. -/

/-- The Direction of a ROT step is that of the transition it makes, None where it makes none. -/
theorem rotStep_dir_eq_directionOf (clk dt : Bool) (s : State) :
    (rotStep clk dt s).out.dir = directionOf s.currentState (rotStep clk dt s).currentState := by
  rw [rotStep, muxStep_out_dir, muxStep_currentState]
  rcases decoderStep_cases clk dt s with ⟨-, e⟩ | ⟨-, e⟩ <;> rw [e]
  · rfl
  · exact (directionOf_self s.currentState).symm

/-- From a neighbour of state 0 the pair 00, and no other, leads to state 0. -/
theorem rotStep_currentState_eq_zero {clk dt : Bool} {s : State}
    (h : s.currentState = 1 ∨ s.currentState = 2) :
    (rotStep clk dt s).currentState = 0 ↔ clk = false ∧ dt = false := by
  rw [rotStep_currentState]
  rcases h with h | h <;> rw [h] <;> revert clk dt <;> decide

/-- A rejected reading changes no field and clears the ROT ports (R64). -/
theorem rotStep_of_rejected {clk dt : Bool} {s : State}
    (h : oneLineDiffers s.currentState clk dt = false) :
    rotStep clk dt s = (s.setDir .none).setRotEvent none := by
  have hdec : decoderStep clk dt s = s.setDir .none := by simp [decoderStep_eq, h]
  rw [rotStep, hdec]
  rfl

theorem exec_rotOp_of_rejected {clk dt : Bool} {s : State}
    (h : oneLineDiffers s.currentState clk dt = false) :
    exec (rotOp clk dt) s = .next ((s.setDir .none).setRotEvent none) := by
  rw [exec_rotOp, rotStep_of_rejected h]

/-- The pair a state labels is not one Gray step from it. -/
theorem oneLineDiffers_stateOfPair (clk dt : Bool) :
    oneLineDiffers (stateOfPair clk dt) clk dt = false := by
  revert clk dt; decide

/-- After a ROT step its own pair is rejected: it is the pair of the state reached, or was rejected
before. -/
theorem oneLineDiffers_rotStep (clk dt : Bool) (s : State) :
    oneLineDiffers (rotStep clk dt s).currentState clk dt = false := by
  rw [rotStep_currentState]
  split
  · exact oneLineDiffers_stateOfPair clk dt
  · next h => simpa using h

theorem rotStep_sameSwitch (clk dt : Bool) (s : State) : SameSwitch s (rotStep clk dt s) := by
  obtain ⟨v, d, e, h⟩ := rotStep_shape clk dt s
  rw [h]
  exact ⟨rfl, rfl, rfl, rfl⟩

theorem rotStep_swEvent (clk dt : Bool) (s : State) :
    (rotStep clk dt s).out.swEvent = s.out.swEvent := by
  obtain ⟨v, d, e, h⟩ := rotStep_shape clk dt s
  rw [h]
  rfl

/-! The statements about one ROT operation. -/

/-- Settles O20. -/
theorem singleGrayStepIsAccepted : Obligations.SingleGrayStepIsAccepted := by
  intro clk dt s h
  refine ⟨_, exec_rotOp clk dt s, by rw [rotStep_currentState, if_pos h], ?_⟩
  simp only [Ports.bits, rotStep_dir, h, true_and]
  split
  · split <;> rfl
  · rfl

/-- Settles O21: the decoder writes `dir` only, and the name selection then shows no event. -/
theorem otherReadingsAreRejected : Obligations.OtherReadingsAreRejected := by
  intro clk dt s h
  exact ⟨_, exec_rotOp_of_rejected h, ⟨rfl, rfl, rfl, rfl, rfl⟩, rfl, rfl, rfl, rfl⟩

/-- Settles O22: the Direction is that of the transition, and from states 1 and 2 the transition into
state 0 is the one of pair 00. -/
theorem directionComesFromTwoCellsOnly : Obligations.DirectionComesFromTwoCellsOnly := by
  intro clk dt s
  refine ⟨_, exec_rotOp clk dt s, ?_⟩
  rw [rotStep_dir_eq_directionOf, directionOf_eq_clockwise, directionOf_eq_counterClockwise]
  exact ⟨and_congr_right fun h => rotStep_currentState_eq_zero (.inr h),
    and_congr_right fun h => rotStep_currentState_eq_zero (.inl h),
    fun h => (zero_and_ne_of_directionOf h).left⟩

/-- Settles O23. -/
theorem rotStepFrame : Obligations.RotStepFrame := fun clk dt s =>
  ⟨_, exec_rotOp clk dt s, rotStep_sameSwitch clk dt s, rotStep_sameSetting clk dt s,
    rotStep_swEvent clk dt s⟩

/-- Settles O24. -/
theorem rotNopKeepsTheState : Obligations.RotNopKeepsTheState := fun s =>
  ⟨(s.setDir .none).setRotEvent none, rfl, ⟨rfl, rfl, rfl, rfl, rfl⟩, ⟨rfl, rfl, rfl, rfl⟩, rfl,
    ⟨rfl, rfl, rfl⟩, rfl⟩

/-! Repeated readings. -/

theorem runOps_cons_of_exec {i : Instr} {s t : State} (h : exec i s = .next t) (rest : List Instr) :
    runOps (i :: rest) s = runOps rest t := by
  simp only [runOps, h]

/-- By induction on the number of repetitions: each rejected reading leaves a state in which the next is
rejected too. -/
theorem runOps_replicate_of_rejected {clk dt : Bool} (n : Nat) {s : State}
    (h : oneLineDiffers s.currentState clk dt = false) :
    ∃ u, runOps (List.replicate (n + 1) (rotOp clk dt)) s = .next u ∧
      u.currentState = s.currentState ∧ u.out.dir = .none := by
  induction n generalizing s with
  | zero => exact ⟨_, runOps_one (exec_rotOp_of_rejected h), rfl, rfl⟩
  | succ n ih =>
    rw [List.replicate_succ, runOps_cons_of_exec (exec_rotOp_of_rejected h)]
    exact ih (s := (s.setDir .none).setRotEvent none) h

/-- Settles O31: the pair a state labels is rejected in it, and so is any pair after its own ROT step. -/
theorem repeatedReadingsGiveNoDirection : Obligations.RepeatedReadingsGiveNoDirection := by
  intro clk dt s
  constructor
  · intro hstate n
    apply runOps_replicate_of_rejected
    rw [hstate, oneLineDiffers_stateOfPair]
  · refine ⟨_, _, exec_rotOp clk dt s, exec_rotOp clk dt _, ?_⟩
    rw [rotStep_of_rejected (oneLineDiffers_rotStep clk dt s)]
    exact ⟨rfl, rfl⟩

/-! The cells in their own states. -/

/-- A cell in its own state moves the decoder to its next state, shows its Direction and writes nothing
else. -/
theorem cellResult_of_state {idx : CellIndex} {s : State}
    (h : s.currentState = idx.extractLsb' 2 2) :
    CellResult (decodeCell idx) s (cellNext idx) (directionCode (cellDir idx)) :=
  ⟨_, exec_decodeCell_of_state h, rfl, rfl, ⟨rfl, rfl, rfl, rfl⟩, ⟨rfl, rfl, rfl, rfl⟩, rfl, rfl⟩

/-- Settles O25: the entries of the table at indices 0 to 7. -/
theorem cellsOfStatesZeroAndOne : Obligations.CellsOfStatesZeroAndOne := fun _ =>
  ⟨fun h => ⟨cellResult_of_state (idx := 0x0) h, cellResult_of_state (idx := 0x1) h,
      cellResult_of_state (idx := 0x2) h, cellResult_of_state (idx := 0x3) h⟩,
    fun h => ⟨cellResult_of_state (idx := 0x4) h, cellResult_of_state (idx := 0x5) h,
      cellResult_of_state (idx := 0x6) h, cellResult_of_state (idx := 0x7) h⟩⟩

/-- Settles O26: the entries of the table at indices 8 to 15. -/
theorem cellsOfStatesTwoAndThree : Obligations.CellsOfStatesTwoAndThree := fun _ =>
  ⟨fun h => ⟨cellResult_of_state (idx := 0x8) h, cellResult_of_state (idx := 0x9) h,
      cellResult_of_state (idx := 0xA) h, cellResult_of_state (idx := 0xB) h⟩,
    fun h => ⟨cellResult_of_state (idx := 0xC) h, cellResult_of_state (idx := 0xD) h,
      cellResult_of_state (idx := 0xE) h, cellResult_of_state (idx := 0xF) h⟩⟩

end Sys2Proof.Machine
end

section
/-! The Directions of a run (R84, R85, R88): each cycle's is that of its transition, so a run's are those of
the trace of state numbers its words lead through. -/

namespace Sys2Proof.Machine

open Sys2Proof.Safety

/-! One cycle. -/

theorem rotSlotStep_dir_eq_directionOf (iw : StepWord) (s : State) :
    (rotSlotStep iw s).out.dir = directionOf s.currentState (rotSlotStep iw s).currentState := by
  unfold rotSlotStep
  split
  · exact rotStep_dir_eq_directionOf _ _ s
  · exact (directionOf_self s.currentState).symm

theorem nextState_dir {s : State} (h : s.nextInput.iw.getLsbD 5 = false) :
    (nextState s).out.dir = directionOf s.currentState (nextState s).currentState := by
  rw [nextState_of_not_rst h]
  simpa using rotSlotStep_dir_eq_directionOf s.nextInput.iw s.startCycle

@[simp] theorem nextState_obsState (s : State) : (nextState s).out.obsState = s.currentState := by
  obtain ⟨-, -, hobs, -⟩ := cycleStep_sameSetting s.nextInput.iw s.nextInput.now s.startCycle
  exact hobs

/-! Counting over a run of any length. -/

/-- The Direction of every cycle of a run without RESET is that of the transition from the state its
observation output shows. -/
theorem dir_of_mem_statesAfter (k : Nat) {s : State} (hlegal : s.cfg.legal = true)
    (hreset : noReset s = true) :
    ∀ t ∈ statesAfter k s, t.out.dir = directionOf t.out.obsState t.currentState := by
  induction k generalizing s with
  | zero => exact fun t ht => absurd ht List.not_mem_nil
  | succ k ih =>
    rw [statesAfter_succ hlegal, List.forall_mem_cons]
    refine ⟨?_, ih (by simpa using hlegal) (noReset_nextState hreset)⟩
    rw [nextState_dir (rst_of_noReset hreset), nextState_obsState]

/-- A Direction that stands for the transition from v to 0 is given as often as the transition is made. -/
theorem count_directions {d : Direction} {v : StateNumber}
    (hd : ∀ a b : StateNumber, directionOf a b = d ↔ a = v ∧ b = 0) (k : Nat) {s : State}
    (hlegal : s.cfg.legal = true) (hreset : noReset s = true) :
    (directions k s).count d =
      (statesAfter k s).countP (fun t => t.out.obsState == v && t.currentState == 0) := by
  rw [directions, List.count, List.countP_map]
  refine List.countP_congr fun t ht => ?_
  simp [dir_of_mem_statesAfter k hlegal hreset t ht, hd]

/-- Settles O33: every cycle's Direction is that of its transition. -/
theorem directionsCountTheReturnsToRest : Obligations.DirectionsCountTheReturnsToRest := by
  intro k s hlegal hreset
  refine ⟨count_directions directionOf_eq_clockwise k hlegal hreset,
    count_directions directionOf_eq_counterClockwise k hlegal hreset, fun t ht hdir => ?_⟩
  rw [dir_of_mem_statesAfter k hlegal hreset t ht] at hdir
  exact zero_and_ne_of_directionOf hdir

/-! The trace of a run with given inputs. -/

/-- The state number and the Direction of each of the given cycles, from the state number before them. -/
def decoderTrace : StateNumber → List InputCycle → List (StateNumber × Direction)
  | _, [] => []
  | v, c :: rest =>
    (acceptReading v c.iw, directionOf v (acceptReading v c.iw)) ::
      decoderTrace (acceptReading v c.iw) rest

/-- A run that ends with its inputs shows their trace. -/
theorem statesAfter_decoderTrace {cs : List InputCycle} {s : State} (hlegal : s.cfg.legal = true)
    (hreset : noReset s = true) (hinputs : s.inputs = cs) :
    (statesAfter cs.length s).map (fun t => (t.currentState, t.out.dir)) =
      decoderTrace s.currentState cs := by
  induction cs generalizing s with
  | nil => rfl
  | cons c rest ih =>
    have hrst := rst_of_noReset hreset
    have hrest := ih (s := nextState s) (by simpa using hlegal) (noReset_nextState hreset)
      (by rw [nextState_inputs, hinputs, List.tail_cons])
    rw [List.length_cons, statesAfter_succ hlegal, List.map_cons, hrest, nextState_dir hrst,
      nextState_currentState hrst, nextInput_of_inputs_cons hinputs, decoderTrace]

theorem directions_eq_trace {cs : List InputCycle} {s : State} (hlegal : s.cfg.legal = true)
    (hreset : noReset s = true) (hinputs : s.inputs = cs) :
    directions cs.length s = (decoderTrace s.currentState cs).map Prod.snd := by
  rw [← statesAfter_decoderTrace hlegal hreset hinputs, List.map_map]
  rfl

theorem currentStates_eq_trace {cs : List InputCycle} {s : State} (hlegal : s.cfg.legal = true)
    (hreset : noReset s = true) (hinputs : s.inputs = cs) :
    (statesAfter cs.length s).map (fun t => t.currentState) =
      (decoderTrace s.currentState cs).map Prod.fst := by
  rw [← statesAfter_decoderTrace hlegal hreset hinputs, List.map_map]
  rfl

/-- Settles O30: the three traces from state 0. -/
theorem partialReturnsGiveADirection : Obligations.PartialReturnsGiveADirection := by
  intro s hlegal hstate
  refine ⟨fun hinputs => ?_, fun hinputs => ?_, fun hinputs => ?_⟩
  all_goals
    refine (directions_eq_trace hlegal (by rw [noReset, hinputs]; decide) hinputs).trans ?_
    rw [hstate]
    decide

/-- A word presented again is rejected, or has no strobe. -/
theorem acceptReading_idem (v : StateNumber) (iw : StepWord) :
    acceptReading (acceptReading v iw) iw = acceptReading v iw := by
  revert v iw; decide

/-- A word presented again and again in the state it leads to. -/
theorem decoderTrace_repeatWord_of_fixed {v : StateNumber} {iw : StepWord}
    (h : acceptReading v iw = v) (n : Nat) (cs : List InputCycle) :
    decoderTrace v (repeatWord n iw ++ cs) = List.replicate n (v, .none) ++ decoderTrace v cs := by
  induction n with
  | zero => rfl
  | succ n ih =>
    have hcons : repeatWord (n + 1) iw ++ cs = ⟨iw, 0⟩ :: (repeatWord n iw ++ cs) := rfl
    rw [hcons, decoderTrace, h, ih, directionOf_self]
    rfl

/-- A word presented one or more times: the first makes the transition, the others stay. -/
theorem decoderTrace_repeatWord {v x : StateNumber} {iw : StepWord} (h : acceptReading v iw = x)
    (n : Nat) (cs : List InputCycle) :
    decoderTrace v (repeatWord (n + 1) iw ++ cs) =
      (x, directionOf v x) :: (List.replicate n (x, .none) ++ decoderTrace x cs) := by
  have hcons : repeatWord (n + 1) iw ++ cs = ⟨iw, 0⟩ :: (repeatWord n iw ++ cs) := rfl
  have hfixed : acceptReading x iw = x := by rw [← h, acceptReading_idem]
  rw [hcons, decoderTrace, h, decoderTrace_repeatWord_of_fixed hfixed]

/-- The same of a word that leads away from rest, or around it: no Direction. -/
theorem decoderTrace_repeatWord_of_ne_zero {v x : StateNumber} {iw : StepWord}
    (h : acceptReading v iw = x) (hx : x ≠ 0) (n : Nat) (cs : List InputCycle) :
    decoderTrace v (repeatWord (n + 1) iw ++ cs) =
      List.replicate (n + 1) (x, .none) ++ decoderTrace x cs := by
  rw [decoderTrace_repeatWord h, directionOf_of_ne_zero v hx]
  rfl

/-! A full turn. -/

/-- Four words lead from state 0 over the states x₁, x₂, x₃, none of them 0, back to state 0. -/
abbrev LeadsAround (iw₁ iw₂ iw₃ iw₄ : StepWord) (x₁ x₂ x₃ : StateNumber) : Prop :=
  (acceptReading 0 iw₁ = x₁ ∧ x₁ ≠ 0) ∧ (acceptReading x₁ iw₂ = x₂ ∧ x₂ ≠ 0)
    ∧ (acceptReading x₂ iw₃ = x₃ ∧ x₃ ≠ 0) ∧ acceptReading x₃ iw₄ = 0

/-- Four words, each presented one or more times. -/
def turnInputs (iw₁ iw₂ iw₃ iw₄ : StepWord) (a b c d : Nat) : List InputCycle :=
  repeatWord (a + 1) iw₁ ++ repeatWord (b + 1) iw₂ ++ repeatWord (c + 1) iw₃
    ++ repeatWord (d + 1) iw₄

theorem turnInputs_length (iw₁ iw₂ iw₃ iw₄ : StepWord) (a b c d : Nat) :
    (turnInputs iw₁ iw₂ iw₃ iw₄ a b c d).length = a + b + c + d + 4 := by
  simp only [turnInputs, repeatWord, List.length_append, List.length_replicate]
  omega

theorem decoderTrace_turnInputs {iw₁ iw₂ iw₃ iw₄ : StepWord} {x₁ x₂ x₃ : StateNumber}
    (h : LeadsAround iw₁ iw₂ iw₃ iw₄ x₁ x₂ x₃) (a b c d : Nat) :
    decoderTrace 0 (turnInputs iw₁ iw₂ iw₃ iw₄ a b c d) =
      List.replicate (a + 1) (x₁, .none) ++ List.replicate (b + 1) (x₂, .none)
        ++ List.replicate (c + 1) (x₃, .none)
        ++ (0, directionOf x₃ 0) :: List.replicate d (0, .none) := by
  obtain ⟨⟨h₁, hx₁⟩, ⟨h₂, hx₂⟩, ⟨h₃, hx₃⟩, h₄⟩ := h
  have hlast : decoderTrace x₃ (repeatWord (d + 1) iw₄) =
      (0, directionOf x₃ 0) :: List.replicate d (0, .none) := by
    simpa [decoderTrace] using decoderTrace_repeatWord h₄ d []
  simp only [turnInputs, List.append_assoc, decoderTrace_repeatWord_of_ne_zero h₁ hx₁,
    decoderTrace_repeatWord_of_ne_zero h₂ hx₂, decoderTrace_repeatWord_of_ne_zero h₃ hx₃, hlast]

/-- A run that presents a full turn: one Direction, at the first return to rest, and the states it leads
over. -/
theorem run_of_turnInputs {iw₁ iw₂ iw₃ iw₄ : StepWord} {x₁ x₂ x₃ : StateNumber}
    (h : LeadsAround iw₁ iw₂ iw₃ iw₄ x₁ x₂ x₃) {a b c d : Nat} {s : State}
    (hlegal : s.cfg.legal = true) (hreset : noReset s = true) (hstate : s.currentState = 0)
    (hinputs : s.inputs = turnInputs iw₁ iw₂ iw₃ iw₄ a b c d) :
    directions (a + b + c + d + 4) s = List.replicate (a + b + c + 3) .none ++ [directionOf x₃ 0]
        ++ List.replicate d .none ∧
      (statesAfter (a + b + c + d + 4) s).map (fun t => t.currentState) = List.replicate (a + 1) x₁
        ++ List.replicate (b + 1) x₂ ++ List.replicate (c + 1) x₃ ++ List.replicate (d + 1) 0 := by
  have hquiet : List.replicate (a + b + c + 3) Direction.none = List.replicate (a + 1) .none
      ++ List.replicate (b + 1) .none ++ List.replicate (c + 1) .none := by
    rw [List.replicate_append_replicate, List.replicate_append_replicate]
    congr 1
    omega
  rw [← turnInputs_length iw₁ iw₂ iw₃ iw₄ a b c d, directions_eq_trace hlegal hreset hinputs,
    currentStates_eq_trace hlegal hreset hinputs, hstate, decoderTrace_turnInputs h, hquiet,
    List.replicate_succ (n := d)]
  simp [-List.replicate_append_replicate]

/-- Settles O29: the two turns out of state 0 and back. -/
theorem fullCyclesGiveExactlyOneDirection : Obligations.FullCyclesGiveExactlyOneDirection := by
  intro s a b c d hlegal hstate
  constructor <;> intro hinputs
  · have hturn : LeadsAround 0x18 0x1C 0x14 0x10 1 3 2 := by decide
    exact run_of_turnInputs hturn hlegal (by simp [noReset, hinputs, repeatWord]) hstate hinputs
  · have hturn : LeadsAround 0x14 0x1C 0x18 0x10 2 3 1 := by decide
    exact run_of_turnInputs hturn hlegal (by simp [noReset, hinputs, repeatWord]) hstate hinputs

end Sys2Proof.Machine
end

section
/-! The SW step of a device with a switch (R90 to R99): what an edge inside the window, an accepted press, an
accepted release and a duplicate leave behind. -/

namespace Sys2Proof.Machine

open Sys2Proof.Safety

/-! The result of an operation, by the edge it comes to. -/

/-- An operation that writes the switch event port alone, with no event, has the result of R93 and R99. -/
theorem swResult_of_noEdge {i : Instr} {s : State} (h : exec i s = .next (s.setSwEvent none)) :
    SwResult i s s.isPressed s.pressStartedAt s.lastAcceptedAt s.lastValid false false 0b00 :=
  ⟨_, h, rfl, rfl, rfl, rfl, ⟨rfl, rfl, rfl⟩, rfl, ⟨rfl, rfl⟩, ⟨rfl, rfl, rfl, rfl⟩⟩

/-- An operation that comes to an accepted release has the result of R95, with the event it reports. -/
theorem swResult_of_releaseEdge {i : Instr} {s : State} {now : Nat} {e : SwEvent}
    (h : exec i s = .next (releaseEdge now e s)) :
    SwResult i s false 0 now true true (swNameCode e.name) (switchEventCode e.kind) :=
  ⟨_, h, rfl, rfl, rfl, rfl, ⟨rfl, rfl, rfl⟩, rfl, ⟨rfl, rfl⟩, ⟨rfl, rfl, rfl, rfl⟩⟩

/-! What the SW step does to the fields of the switch. -/

/-- A device without a switch ignores the SW step (R119). -/
theorem switchStep_of_no_switch {s : State} (h : s.cfg.swPresent = false) (l : Bool) (now : Nat) :
    switchStep l now s = s.setSwEvent none := by
  simp [switchStep, h]

/-- An edge outside the window is recorded, whatever it is (R94 to R96). -/
theorem switchStep_records_edge {now : Nat} {s : State} (hs : s.cfg.swPresent = true)
    (ho : OutsideWindow s now) (l : Bool) :
    (switchStep l now s).lastAcceptedAt = portNow s now ∧
      (switchStep l now s).lastValid = true := by
  have hd := discards_eq_false.mpr ho
  rcases switchStep_cases l now s with ⟨hno, -⟩ | ⟨-, hin, -⟩ | ⟨-, -, -, -, e⟩ |
    ⟨-, -, -, -, -, e⟩ | ⟨-, -, -, -, -, e⟩ | ⟨-, -, -, e⟩
  · simp [hs] at hno
  · simp [hd] at hin
  all_goals
    rw [e]
    exact ⟨rfl, rfl⟩

/-- What the SW slot does to the press: keeps it, begins one at this `now`, or leaves none (R20 I3). -/
theorem swSlotStep_press_cases (iw : StepWord) (now : Nat) (s : State) :
    ((swSlotStep iw now s).isPressed = s.isPressed ∧
      (swSlotStep iw now s).pressStartedAt = s.pressStartedAt) ∨
    (s.isPressed = false ∧ (swSlotStep iw now s).pressStartedAt = portNow s now ∧
      (swSlotStep iw now s).lastAcceptedAt = portNow s now) ∨
    (swSlotStep iw now s).isPressed = false := by
  unfold swSlotStep
  split
  · rcases switchStep_cases (iw.getLsbD 0) now s with ⟨-, e⟩ | ⟨-, -, e⟩ | ⟨-, -, -, hp, e⟩ |
      ⟨-, -, -, -, -, e⟩ | ⟨-, -, -, -, -, e⟩ | ⟨-, -, -, e⟩ <;> rw [e]
    · exact .inl ⟨rfl, rfl⟩
    · exact .inl ⟨rfl, rfl⟩
    · exact .inr (.inl ⟨hp, rfl, rfl⟩)
    · exact .inr (.inr rfl)
    · exact .inr (.inr rfl)
    · exact .inl ⟨rfl, rfl⟩
  · exact .inl ⟨rfl, rfl⟩

/-! The statements about one SW step. -/

/-- Settles O34. -/
theorem onlyEdgesInsideTheWindowAreDiscarded : Obligations.OnlyEdgesInsideTheWindowAreDiscarded := by
  intro l now s hs
  refine ⟨fun hin => ?_, fun hout => ⟨_, exec_swOp l now s, switchStep_records_edge hs hout l⟩⟩
  exact swResult_of_noEdge (by rw [exec_swOp, switchStep_discard hs hin])

/-- Settles O35. -/
theorem acceptedPressSetsTheSwitch : Obligations.AcceptedPressSetsTheSwitch := by
  intro l now s hs hout hl hp
  exact swResult_of_pressEdge (by rw [exec_swOp, switchStep_press hs hout hl hp])

/-- Settles O36. -/
theorem acceptedReleaseClassifiesThePress : Obligations.AcceptedReleaseClassifiesThePress := by
  intro l now s hs hout hl hp
  constructor <;> intro hlong
  · exact swResult_of_releaseEdge (e := ⟨.long, .longPressed⟩)
      (by rw [exec_swOp, switchStep_long hs hout hl hp hlong])
  · exact swResult_of_releaseEdge (e := ⟨.normal, .released⟩)
      (by rw [exec_swOp, switchStep_release hs hout hl hp hlong])

/-- Settles O37. -/
theorem duplicateLevelRefreshesTheWindow : Obligations.DuplicateLevelRefreshesTheWindow := by
  intro l now s hs hout hl
  exact swResult_of_refreshEdge (by rw [exec_swOp, switchStep_refresh hs hout hl])

/-- Settles O38. -/
theorem noSwitchStepKeepsTheSwitch : Obligations.NoSwitchStepKeepsTheSwitch := by
  intro s
  refine ⟨swResult_of_noEdge rfl, fun hno l now => swResult_of_noEdge ?_⟩
  rw [exec_swOp, switchStep_of_no_switch hno]

/-- Settles O39: the SW step writes the switch fields and its own port only. -/
theorem swStepFrame : Obligations.SwStepFrame := by
  intro l now s
  refine ⟨_, exec_swOp l now s, ?_⟩
  obtain ⟨q, a, b, v, e, h⟩ := switchStep_shape l now s
  rw [h]
  exact ⟨rfl, ⟨rfl, rfl⟩, ⟨rfl, rfl, rfl, rfl⟩⟩

/-- Settles O47: the ROT slot leaves the switch to the SW slot. -/
theorem pressStartIsTheTimeOfThePress : Obligations.PressStartIsTheTimeOfThePress := by
  intro s hlegal hrst
  refine ⟨nextState s, step_eq_nextState hlegal, ?_⟩
  have h := swSlotStep_press_cases s.nextInput.iw s.nextInput.now
    (rotSlotStep s.nextInput.iw s.startCycle)
  rw [← nextState_of_not_rst hrst] at h
  simp only [portNow, rotSlotStep_sameSwitch, rotSlotStep_sameSetting, startCycle_sameSwitch,
    State.startCycle_cfg] at h
  rcases h with ⟨hpress, hstart⟩ | ⟨hreleased, hstart, hlast⟩ | hrelease
  · exact ⟨fun _ _ => hstart, fun hp hq => absurd (hpress.symm.trans hq) (by simp [hp])⟩
  · exact ⟨fun hp => absurd hp (by simp [hreleased]), fun _ _ => ⟨hstart, hlast⟩⟩
  · simp [hrelease]

end Sys2Proof.Machine
end

section
/-! The five outcomes of a SW step as operations (R93 to R96, R105): the condition each has, and that the SW
step is the one whose condition holds. -/

namespace Sys2Proof.Machine

open Sys2Proof.Safety

/-! An outcome writes its edge under its condition. -/

theorem exec_swDiscard (l : Bool) (now : Nat) (s : State) :
    exec (.swDiscard l now) s =
      .next (if discardSelected (portNow s now) s then s.setSwEvent none else s) := rfl

theorem exec_swPress (l : Bool) (now : Nat) (s : State) :
    exec (.swPress l now) s =
      .next (if pressSelected l (portNow s now) s then pressEdge (portNow s now) s else s) := rfl

theorem exec_swRelease (l : Bool) (now : Nat) (s : State) :
    exec (.swRelease l now) s =
      .next (if releaseSelected l (portNow s now) s && !s.isLongPress (portNow s now) then
        releaseEdge (portNow s now) { name := .normal, kind := .released } s else s) := rfl

theorem exec_swLong (l : Bool) (now : Nat) (s : State) :
    exec (.swLong l now) s =
      .next (if releaseSelected l (portNow s now) s && s.isLongPress (portNow s now) then
        releaseEdge (portNow s now) { name := .long, kind := .longPressed } s else s) := rfl

theorem exec_swRefresh (l : Bool) (now : Nat) (s : State) :
    exec (.swRefresh l now) s =
      .next (if refreshSelected l (portNow s now) s then refreshEdge (portNow s now) s else s) := rfl

/-! The conditions in the terms of the claims. -/

theorem discardSelected_of_inside {now : Nat} {s : State} (hs : s.cfg.swPresent = true)
    (hin : InsideWindow s now) : discardSelected (portNow s now) s = true := by
  have hd : s.discards (portNow s now) = true := discards_eq_true.mpr hin
  simp [discardSelected, hs, hd]

theorem pressSelected_of_outside {l : Bool} {now : Nat} {s : State} (hs : s.cfg.swPresent = true)
    (hout : OutsideWindow s now) (hl : l = s.cfg.pressLevel) (hp : s.isPressed = false) :
    pressSelected l (portNow s now) s = true := by
  have hd : s.discards (portNow s now) = false := discards_eq_false.mpr hout
  simp [pressSelected, hs, hp, hd, indicatesPress_eq_true.mpr hl]

theorem releaseSelected_of_outside {l : Bool} {now : Nat} {s : State} (hs : s.cfg.swPresent = true)
    (hout : OutsideWindow s now) (hl : l ≠ s.cfg.pressLevel) (hp : s.isPressed = true) :
    releaseSelected l (portNow s now) s = true := by
  have hd : s.discards (portNow s now) = false := discards_eq_false.mpr hout
  simp [releaseSelected, hs, hp, hd, indicatesPress_eq_false.mpr hl]

theorem refreshSelected_of_outside {l : Bool} {now : Nat} {s : State} (hs : s.cfg.swPresent = true)
    (hout : OutsideWindow s now) (hl : l = s.cfg.pressLevel ↔ s.isPressed = true) :
    refreshSelected l (portNow s now) s = true := by
  have hd : s.discards (portNow s now) = false := discards_eq_false.mpr hout
  have hi : s.indicatesPress l = s.isPressed := by rw [Bool.eq_iff_iff, indicatesPress_eq_true, hl]
  simp [refreshSelected, hs, hd, hi]

/-- Settles O40: each outcome writes the edge of its rule under its condition. -/
theorem switchOutcomesHaveTheirEffect : Obligations.SwitchOutcomesHaveTheirEffect := by
  intro l now s hs
  refine ⟨fun hin => ?_, fun hout hl hp => ?_, fun hout hl hp hlong => ?_,
    fun hout hl hp hlong => ?_, fun hout hl => ?_⟩
  · apply swResult_of_noEdge
    rw [exec_swDiscard, if_pos (discardSelected_of_inside hs hin)]
  · apply swResult_of_pressEdge
    rw [exec_swPress, if_pos (pressSelected_of_outside hs hout hl hp)]
  · have hshort : s.isLongPress (portNow s now) = false := isLongPress_eq_false.mpr hlong
    apply swResult_of_releaseEdge (e := ⟨.normal, .released⟩)
    simp [exec_swRelease, releaseSelected_of_outside hs hout hl hp, hshort]
  · have hlong : s.isLongPress (portNow s now) = true := isLongPress_eq_true.mpr hlong
    apply swResult_of_releaseEdge (e := ⟨.long, .longPressed⟩)
    simp [exec_swLong, releaseSelected_of_outside hs hout hl hp, hlong]
  · apply swResult_of_refreshEdge
    rw [exec_swRefresh, if_pos (refreshSelected_of_outside hs hout hl)]

/-! The SW step as one of them. -/

/-- Settles O41: whichever case the SW step is, the conditions of the other four outcomes contradict it. -/
theorem swStepIsExactlyOneOutcome : Obligations.SwStepIsExactlyOneOutcome := by
  intro l now s hs
  have hexec : _ ∧ _ ∧ _ ∧ _ ∧ _ := ⟨exec_swDiscard l now s, exec_swPress l now s,
    exec_swRelease l now s, exec_swLong l now s, exec_swRefresh l now s⟩
  simp only [discardSelected, pressSelected, releaseSelected, refreshSelected, hs] at hexec
  have hcases := switchStep_cases l now s
  rw [truncW_eq_portNow] at hcases
  rw [exec_swOp]
  rcases hcases with ⟨hno, -⟩ | ⟨-, hd, e⟩ | ⟨-, hd, hi, hp, e⟩ |
    ⟨-, hd, hi, hp, hlong, e⟩ | ⟨-, hd, hi, hp, hlong, e⟩ | ⟨-, hd, hi, e⟩
  · simp [hs] at hno
  all_goals rw [e]
  · exact ⟨.swDiscard l now, by simp [swOutcomes, hexec, hd, discardEdge]⟩
  · exact ⟨.swPress l now, by simp [swOutcomes, hexec, hd, hi, hp]⟩
  · exact ⟨.swLong l now, by simp [swOutcomes, hexec, hd, hi, hp, hlong]⟩
  · exact ⟨.swRelease l now, by simp [swOutcomes, hexec, hd, hi, hp, hlong]⟩
  · exact ⟨.swRefresh l now, by cases hp : s.isPressed <;> simp [swOutcomes, hexec, hd, hi, hp]⟩

end Sys2Proof.Machine
end

section
/-! What a SW step reads of the constants (R91, R101): it depends on them through the width, the window, the
press indication and the long-press comparison only. -/

namespace Sys2Proof.Machine

open Sys2Proof.Safety

/-- Under constants that judge the edge alike the SW step does the same. -/
theorem switchStep_with_cfg {l l' : Bool} {now : Nat} {s : State} {c : Config}
    (hwidth : c.tsWidth = s.cfg.tsWidth) (hsw : c.swPresent = s.cfg.swPresent)
    (hwindow : c.debounceWindow = s.cfg.debounceWindow)
    (hpress : State.indicatesPress { s with cfg := c } l' = s.indicatesPress l)
    (hlong : ∀ t, State.isLongPress { s with cfg := c } t = s.isLongPress t) :
    switchStep l' now { s with cfg := c } = { switchStep l now s with cfg := c } := by
  have hdiscards (t : Nat) : State.discards { s with cfg := c } t = s.discards t := by
    unfold State.discards State.elapsed
    rw [hwidth, hwindow]
  simp only [switchStep, hwidth, hsw, hdiscards, hpress, hlong]
  repeat' split
  all_goals rfl

/-- Settles O50: the exchanged level indicates press exactly when the level did. -/
theorem pressLevelExchangesTheTwoSwSteps : Obligations.PressLevelExchangesTheTwoSwSteps := by
  intro l now s
  refine ⟨_, exec_swOp l now s, (exec_swOp _ _ _).trans (congrArg Host.Outcome.next ?_)⟩
  exact switchStep_with_cfg rfl rfl rfl (by simp [State.indicatesPress]) (fun _ => rfl)

/-- The event of a SW step; a release is reported as long or not by the comparison of R95. -/
theorem switchStep_swEvent_cases (l : Bool) (now : Nat) (s : State) :
    (switchStep l now s).out.swEvent = none ∨
    (switchStep l now s).out.swEvent = some { name := .normal, kind := .pressed } ∨
    ((switchStep l now s).out.swEvent = some { name := .long, kind := .longPressed } ∧
      IsLong s now) ∨
    ((switchStep l now s).out.swEvent = some { name := .normal, kind := .released } ∧
      ¬ IsLong s now) := by
  rcases switchStep_cases l now s with ⟨-, e⟩ | ⟨-, -, e⟩ | ⟨-, -, -, -, e⟩ |
    ⟨-, -, -, -, hlong, e⟩ | ⟨-, -, -, -, hlong, e⟩ | ⟨-, -, -, e⟩ <;> rw [e]
  · exact .inl rfl
  · exact .inl rfl
  · exact .inr (.inl rfl)
  · exact .inr (.inr (.inl ⟨rfl, isLongPress_eq_true.mp hlong⟩))
  · exact .inr (.inr (.inr ⟨rfl, isLongPress_eq_false.mp hlong⟩))
  · exact .inl rfl

/-- A SW step whose `now` is not that of a long press shows neither the long kind nor the long name. -/
theorem switchStep_ports_of_not_long {now : Nat} {s : State} (h : ¬ IsLong s now) (l : Bool) :
    (switchStep l now s).out.bits.swEvKind ≠ 0b11 ∧
      (switchStep l now s).out.bits.swEvName = false := by
  rcases switchStep_swEvent_cases l now s with e | e | ⟨-, hlong⟩ | ⟨e, -⟩
  · simp [Ports.bits, e]
  · simp [Ports.bits, e, switchEventCode, swNameCode]
  · exact absurd hlong h
  · simp [Ports.bits, e, switchEventCode, swNameCode]

/-- A SW step whose `now` is that of a long press does not report Released. -/
theorem switchStep_kind_of_long {now : Nat} {s : State} (h : IsLong s now) (l : Bool) :
    (switchStep l now s).out.bits.swEvKind ≠ 0b10 := by
  rcases switchStep_swEvent_cases l now s with e | e | ⟨e, -⟩ | ⟨-, hshort⟩
  · simp [Ports.bits, e]
  · simp [Ports.bits, e, switchEventCode]
  · simp [Ports.bits, e, switchEventCode]
  · exact absurd h hshort

/-- `LP_EN` is 1 exactly when both long-press knobs are given (R101). -/
theorem configOfKnobs_lpEn (k : Knobs) : (configOfKnobs k).lpEn = true ↔
    (∃ name, k.nameLongPress = some name) ∧ (∃ thr, k.timeThreshold = some thr) := by
  simp only [configOfKnobs, Bool.and_eq_true, Option.isSome_iff_exists]

/-- Settles O42: with `LP_EN` = 0 no `now` is that of a long press, whatever the threshold and the long
name are. -/
theorem longPressDisabledIsNeverReported : Obligations.LongPressDisabledIsNeverReported := by
  refine ⟨fun l now s hen => ?_, configOfKnobs_lpEn⟩
  have hshort : ¬ IsLong s now := by simp [IsLong, hen]
  obtain ⟨hkind, hname⟩ := switchStep_ports_of_not_long hshort l
  refine ⟨_, exec_swOp l now s, hkind, hname, fun hs hout hl hp => ?_, fun thr name => ?_⟩
  · rw [switchStep_release hs hout hl hp hshort]
    exact ⟨rfl, rfl, rfl⟩
  · refine (exec_swOp _ _ _).trans (congrArg Host.Outcome.next ?_)
    exact switchStep_with_cfg rfl rfl rfl rfl (by simp [State.isLongPress, hen])

end Sys2Proof.Machine
end

section
/-! Times (R92, R95, R100, R103, R104, R106): differences modulo 2^W against true durations, and what the
comparisons with the window and the threshold come to at their corners. -/

namespace Sys2Proof.Machine

open Sys2Proof.Safety

/-! Modular differences. -/

theorem minusW_lt (w a b : Nat) : minusW w a b < 2 ^ w := BitVec.isLt _

/-- Only the low W bits of the earlier time count. -/
theorem minusW_mod_right (w a b : Nat) : minusW w a (b % 2 ^ w) = minusW w a b := by
  have h : BitVec.ofNat w (b % 2 ^ w) = BitVec.ofNat w b := by
    apply BitVec.eq_of_toNat_eq
    simp
  simp only [minusW, h]

/-- A time is no tick after itself. -/
theorem minusW_eq_zero {w a b : Nat} (h : a % 2 ^ w = b) : minusW w a b = 0 := by
  rw [← h, minusW_mod_right]
  simp [minusW]

theorem minusW_of_true_times {w t₀ t₁ : Nat} (h : t₀ ≤ t₁) (hw : t₁ - t₀ < 2 ^ w) :
    minusW w (t₁ % 2 ^ w) (t₀ % 2 ^ w) = t₁ - t₀ :=
  subW_of_true_times h hw

/-! The statements. -/

/-- Settles O44. -/
theorem modularTimesAreTrueDurations : Obligations.ModularTimesAreTrueDurations := by
  intro s t₀ t₁ hle hw
  constructor <;> intro h
  · rw [State.elapsed, h, subW_of_true_times hle hw]
  · rw [State.held, h, subW_of_true_times hle hw]

/-- Settles O45: the time since the press is no less than the time since the last edge, so than the window,
so than the threshold. -/
theorem shortThresholdMakesEveryReleaseLong : Obligations.ShortThresholdMakesEveryReleaseLong := by
  intro l s tp ta tn hpa han hw hstart hlast _ hp hs hl hen hthr hwindow
  have helapsed : minusW s.cfg.tsWidth (tn % 2 ^ s.cfg.tsWidth) s.lastAcceptedAt = tn - ta := by
    rw [hlast, minusW_of_true_times han (by omega)]
  have hheld : minusW s.cfg.tsWidth (tn % 2 ^ s.cfg.tsWidth) s.pressStartedAt = tn - tp := by
    rw [hstart, minusW_of_true_times (by omega) hw]
  have hout : OutsideWindow s (tn % 2 ^ s.cfg.tsWidth) := .inr (by rw [helapsed]; exact hwindow)
  have hlong : IsLong s (tn % 2 ^ s.cfg.tsWidth) := ⟨hen, by rw [hheld]; omega⟩
  have hrelease := (acceptedReleaseClassifiesThePress l _ s hs hout hl hp).left hlong
  rwa [portNow, Nat.mod_mod] at hrelease

/-- Settles O43: at each corner the elapsed time decides the window, and the held time the threshold,
alone. -/
theorem windowAndThresholdCorners : Obligations.WindowAndThresholdCorners := by
  intro l now s hs
  have hkeep (hin : InsideWindow s now) : SameBlock s (switchStep l now s) := by
    rw [switchStep_discard hs hin]
    exact ⟨rfl, rfl, rfl, rfl, rfl⟩
  have hlt := minusW_lt s.cfg.tsWidth now s.lastAcceptedAt
  refine ⟨_, exec_swOp l now s, fun h => ?_, fun h hv hne => ?_, fun h heq => ?_,
    fun hen h => ?_, fun heq hv h => ?_, fun heq h => ?_⟩
  · exact switchStep_records_edge hs (.inr (by omega)) l
  · exact hkeep ⟨hv, by omega⟩
  · exact switchStep_records_edge hs (.inr (by omega)) l
  · exact switchStep_kind_of_long ⟨hen, by omega⟩ l
  · exact hkeep ⟨hv, by rw [minusW_eq_zero heq]; omega⟩
  · have hshort : ¬ IsLong s now := fun ⟨_, hthr⟩ => h (by simpa [minusW_eq_zero heq] using hthr)
    exact (switchStep_ports_of_not_long hshort l).left

/-- A release outside the window leaves the switch released, long press or not. -/
theorem isPressed_of_accepted_release {l : Bool} {now : Nat} {s : State}
    (hs : s.cfg.swPresent = true) (hout : OutsideWindow s now) (hl : l ≠ s.cfg.pressLevel)
    (hp : s.isPressed = true) : (switchStep l now s).isPressed = false := by
  by_cases hlong : IsLong s now
  · rw [switchStep_long hs hout hl hp hlong]
    rfl
  · rw [switchStep_release hs hout hl hp hlong]
    rfl

/-- Settles O46: the release in the window is discarded, the press after it is a duplicate, and neither
moves `press_started_at`. -/
theorem lostReleaseIsMeasuredFromTheFirstPress :
    Obligations.LostReleaseIsMeasuredFromTheFirstPress := by
  intro l n₁ n₂ n₃ s hs hp hl hin hout hwindow
  have hl' : (!l) ≠ s.cfg.pressLevel := by simp [hl]
  have hlost : switchStep (!l) n₁ s = s.setSwEvent none := switchStep_discard hs hin
  have hduplicate : switchStep l n₂ (s.setSwEvent none) =
      refreshEdge (portNow s n₂) (s.setSwEvent none) :=
    switchStep_refresh hs hout (by simp [hl, hp])
  have hout₃ : OutsideWindow (refreshEdge (portNow s n₂) (s.setSwEvent none)) n₃ :=
    .inr (hwindow.trans_eq (minusW_mod_right _ _ _).symm)
  refine ⟨_, _, _, (exec_swOp _ _ _).trans (congrArg _ hlost),
    (exec_swOp _ _ _).trans (congrArg _ hduplicate), exec_swOp _ _ _, ⟨rfl, rfl, rfl⟩,
    ⟨rfl, rfl, rfl⟩, hp, isPressed_of_accepted_release hs hout₃ hl' hp, fun hlong => ?_,
    fun hshort => ?_⟩
  · rw [switchStep_long (s := refreshEdge _ (s.setSwEvent none)) hs hout₃ hl' hp hlong]
    exact ⟨rfl, rfl, rfl⟩
  · rw [switchStep_release (s := refreshEdge _ (s.setSwEvent none)) hs hout₃ hl' hp hshort]
    exact ⟨rfl, rfl, rfl⟩

end Sys2Proof.Machine
end

section
/-! The name selection on the rotation event port (R111 to R113), in a ROT step, as an operation, and on a
device without a switch (R119). -/

namespace Sys2Proof.Machine

open Sys2Proof.Safety

/-! The port as bits. -/

theorem directionCode_eq_zero {d : Direction} : directionCode d = 0b00 ↔ d = .none := by
  cases d <;> decide

/-- No rotation event is shown as three zeros (R48). -/
theorem rotPortShows_of_no_event {t : State} (h : t.out.rotEvent = none) :
    RotPortShows t false false 0b00 := by
  simp [RotPortShows, Ports.bits, h]

theorem rotPortShows_of_event {t : State} {n : RotName} {d : Direction}
    (h : t.out.rotEvent = some ⟨n, d⟩) :
    RotPortShows t true (rotNameCode n) (directionCode d) := by
  simp [RotPortShows, Ports.bits, h]

/-! The name selection in a ROT step. -/

/-- Settles O51: in each of the four cases the event is the one the name selection writes. -/
theorem rotationEventIsNamedByThePressState : Obligations.RotationEventIsNamedByThePressState := by
  intro clk dt s
  have hevent := rotStep_rotEvent clk dt s
  refine ⟨_, exec_rotOp clk dt s, fun hd => ?_, fun hd (hp : s.atomicReadPressed = false) => ?_,
    fun hd (hp : s.atomicReadPressed = true) hs => ?_,
    fun hd (hp : s.atomicReadPressed = true) hs => ?_⟩
  · rw [if_pos (directionCode_eq_zero.mp hd)] at hevent
    exact rotPortShows_of_no_event hevent
  all_goals rw [if_neg (mt directionCode_eq_zero.mpr hd)] at hevent
  · rw [if_pos hp] at hevent
    exact rotPortShows_of_event hevent
  · rw [if_neg (by simp [hp]), if_pos hs] at hevent
    exact rotPortShows_of_event hevent
  · rw [if_neg (by simp [hp]), if_neg (by simp [hs])] at hevent
    exact rotPortShows_of_no_event hevent

/-! The four outcomes as operations. -/

/-- An operation that clears the rotation event port and writes nothing else has the result of R112 and
R113. -/
theorem muxResult_of_no_event {i : Instr} {s : State} (h : exec i s = .next (s.setRotEvent none)) :
    MuxResult i s false false 0b00 :=
  ⟨_, h, rotPortShows_of_no_event rfl, ⟨rfl, rfl, rfl, rfl, rfl⟩, ⟨rfl, rfl, rfl, rfl⟩, rfl, rfl⟩

/-- An operation that writes an event on the rotation event port and nothing else has the result of
R111. -/
theorem muxResult_of_event {i : Instr} {s : State} {n : RotName} {d : Direction}
    (h : exec i s = .next (s.setRotEvent (some ⟨n, d⟩))) :
    MuxResult i s true (rotNameCode n) (directionCode d) :=
  ⟨_, h, rotPortShows_of_event rfl, ⟨rfl, rfl, rfl, rfl, rfl⟩, ⟨rfl, rfl, rfl, rfl⟩, rfl, rfl⟩

/-- Settles O52: under its condition each outcome writes the event of its rule. -/
theorem muxOutcomesHaveTheirEffect : Obligations.MuxOutcomesHaveTheirEffect := by
  intro s
  refine ⟨fun hd => muxResult_of_no_event ?_, fun hd hp => muxResult_of_event (n := .active) ?_,
    fun hd hp hs => muxResult_of_event (n := .shifted) ?_,
    fun hd hp hs => muxResult_of_no_event ?_⟩
  · rw [exec_muxNone, if_pos hd]
  · rw [exec_muxActive, if_pos ⟨hd, hp⟩]
  · rw [exec_muxShifted, if_pos ⟨hd, hp, hs⟩]
  · rw [exec_muxSuppress, if_pos ⟨hd, hp, hs⟩]

/-! A device without a switch. -/

/-- A Direction given while the switch reads as released is delivered under the active name. -/
theorem rotSlotStep_rotEvent_of_released {iw : StepWord} {s : State}
    (hp : s.atomicReadPressed = false) (hd : (rotSlotStep iw s).out.dir ≠ .none) :
    (rotSlotStep iw s).out.rotEvent = some ⟨.active, (rotSlotStep iw s).out.dir⟩ := by
  cases hstb : iw.getLsbD 4 with
  | true =>
    rw [rotSlotStep, if_pos hstb] at hd ⊢
    rw [rotStep_rotEvent, if_neg hd, if_pos hp]
  | false =>
    rw [rotSlotStep_of_no_strobe hstb] at hd
    exact absurd rfl hd

/-- Without a switch a cycle without RESET is its ROT slot (R119). -/
theorem nextState_of_no_switch {s : State} (hsw : s.cfg.swPresent = false)
    (hrst : s.nextInput.iw.getLsbD 5 = false) :
    nextState s = (rotSlotStep s.nextInput.iw s.startCycle).setSwEvent none := by
  rw [nextState_of_not_rst hrst, swSlotStep_of_no_switch (by simpa using hsw)]

/-- Settles O56: a RESET cycle clears the press state and shows no Direction; any other cycle is its ROT
slot, which writes no switch field and reads the switch as released. -/
theorem pureRotaryDeviceIgnoresTheSwitch : Obligations.PureRotaryDeviceIgnoresTheSwitch := by
  intro s hlegal hsw hp
  refine ⟨nextState s, step_eq_nextState hlegal, ?_⟩
  cases hrst : s.nextInput.iw.getLsbD 5 with
  | true =>
    rw [nextState_of_rst hrst]
    exact ⟨rfl, ⟨rfl, rfl, rfl⟩, by simp, fun hd => absurd rfl hd⟩
  | false =>
    have hread : s.startCycle.atomicReadPressed = false := by simp [State.atomicReadPressed, hsw]
    have hswitch : SameSwitch s (rotSlotStep s.nextInput.iw s.startCycle) := by simp [SameSwitch]
    rw [nextState_of_no_switch hsw hrst]
    refine ⟨by simpa using hp, ⟨rfl, rfl, rfl⟩, fun _ => hswitch, fun hd => ?_⟩
    exact rotPortShows_of_event
      (rotSlotStep_rotEvent_of_released hread (mt directionCode_eq_zero.mpr hd))

end Sys2Proof.Machine
end

section
/-! What a step and a run answer (R52, R125, R156): only an illegal configuration is refused, and no run of a
legal one stops early. -/

namespace Sys2Proof.Machine

theorem step_of_illegal {s : State} (h : s.cfg.legal = false) : step s = .refused .illegalConfiguration := by
  simp [step, h]

/-- What a step can answer: the state after the cycle or the one refusal, as the configuration decides. -/
theorem step_cases (s : State) :
    (s.cfg.legal = true ∧ step s = .next (nextState s)) ∨
      (s.cfg.legal = false ∧ step s = .refused .illegalConfiguration) := by
  cases h : s.cfg.legal with
  | true => exact .inl ⟨rfl, step_eq_nextState h⟩
  | false => exact .inr ⟨rfl, step_of_illegal h⟩

theorem step_ne_fault (s : State) (f : Fault) : step s ≠ .fault f := by
  obtain ⟨-, hstep⟩ | ⟨-, hstep⟩ := step_cases s <;> simp [hstep]

theorem step_eq_refused {s : State} {r : Refusal} (h : step s = .refused r) :
    r = .illegalConfiguration ∧ s.cfg.legal = false := by
  obtain ⟨-, hstep⟩ | ⟨hillegal, hstep⟩ := step_cases s
  · cases hstep.symm.trans h
  · cases hstep.symm.trans h
    exact ⟨rfl, hillegal⟩

/-- Settles O10, by induction on the length of the run: the first cycle completes, and the state it leads to
has the same legal configuration, so the rest of the run completes too. -/
theorem runsOfAnyLengthComplete : Obligations.RunsOfAnyLengthComplete := by
  intro k
  induction k with
  | zero => exact fun s _ => ⟨s, rfl, rfl, rfl⟩
  | succ k ih =>
    intro s hlegal
    obtain ⟨t, hrun, hcfg, hinputs⟩ := ih (nextState s) (by simpa using hlegal)
    refine ⟨t, (run_succ_of_step (step_eq_nextState hlegal) k).trans hrun, ?_, ?_⟩
    · rw [hcfg, nextState_cfg]
    · rw [hinputs, nextState_inputs, List.drop_tail]

/-- Settles O9. -/
theorem stepNeverFaultsAndRefusesOnlyIllegalConfigurations :
    Obligations.StepNeverFaultsAndRefusesOnlyIllegalConfigurations :=
  ⟨fun s hlegal => ⟨nextState s, step_eq_nextState hlegal⟩, step_ne_fault, fun _ _ => step_eq_refused⟩

end Sys2Proof.Machine
end

section
/-! What is not taken changes nothing: a cycle with no inputs left, a cell that is not looked up and an
outcome whose condition fails (log entries 2, 3 and 6). -/

namespace Sys2Proof.Machine

open Sys2Proof.Safety

/-! No inputs left. -/

theorem noStrobe_of_no_inputs {s : State} (h : s.inputs = []) : noStrobe s = true := by
  simp [noStrobe, h]

/-- Settles O7: an empty input list asserts no strobe. -/
theorem noInputIsAnIdleCycle : Obligations.NoInputIsAnIdleCycle := by
  intro s hlegal hinputs
  obtain ⟨hrst, hrot, hsw⟩ := strobes_of_noStrobe (noStrobe_of_no_inputs hinputs)
  obtain ⟨hsame, hevent⟩ := nextState_of_no_strobe hrst hrot hsw
  exact ⟨nextState s, step_eq_nextState hlegal, hsame, hevent, nextState_cfg s, by simp [hinputs]⟩

/-! A cell that is not looked up. -/

theorem exec_decodeCell_of_other_state {idx : CellIndex} {s : State}
    (h : s.currentState ≠ idx.extractLsb' 2 2) : exec (decodeCell idx) s = .next s := by
  rw [exec_decodeCell, applyCell, if_neg h]

/-! The outcomes of the name selection. -/

theorem exec_muxActive_unless {s : State}
    (h : ¬ (s.out.dir ≠ .none ∧ s.atomicReadPressed = false)) : exec .muxActive s = .next s := by
  rw [exec_muxActive, if_neg h]

theorem exec_muxShifted_unless {s : State}
    (h : ¬ (s.out.dir ≠ .none ∧ s.atomicReadPressed = true ∧ s.cfg.shiftEn = true)) :
    exec .muxShifted s = .next s := by
  rw [exec_muxShifted, if_neg h]

theorem exec_muxSuppress_unless {s : State}
    (h : ¬ (s.out.dir ≠ .none ∧ s.atomicReadPressed = true ∧ s.cfg.shiftEn = false)) :
    exec .muxSuppress s = .next s := by
  rw [exec_muxSuppress, if_neg h]

theorem exec_muxNone_unless {s : State} (h : s.out.dir ≠ .none) : exec .muxNone s = .next s := by
  rw [exec_muxNone, if_neg h]

/-! The outcomes of a SW step: each whole condition in the terms of the claims, and nothing without it. -/

theorem not_outsideWindow {s : State} {now : Nat} (h : InsideWindow s now) :
    ¬ OutsideWindow s now := by
  rw [← discards_eq_false, discards_eq_true.mpr h]
  decide

theorem discardSelected_iff {now : Nat} {s : State} :
    discardSelected (portNow s now) s = true ↔ s.cfg.swPresent = true ∧ InsideWindow s now := by
  rw [discardSelected, Bool.and_eq_true, ← truncW_eq_portNow, discards_eq_true]

theorem pressSelected_iff {l : Bool} {now : Nat} {s : State} :
    pressSelected l (portNow s now) s = true ↔
      s.cfg.swPresent = true ∧ OutsideWindow s now ∧ l = s.cfg.pressLevel ∧ s.isPressed = false := by
  simp only [pressSelected, ← truncW_eq_portNow, Bool.and_eq_true, Bool.not_eq_true',
    discards_eq_false, indicatesPress_eq_true, and_assoc]

theorem releaseSelected_iff {l : Bool} {now : Nat} {s : State} :
    releaseSelected l (portNow s now) s = true ↔
      s.cfg.swPresent = true ∧ OutsideWindow s now ∧ l ≠ s.cfg.pressLevel ∧ s.isPressed = true := by
  simp only [releaseSelected, ← truncW_eq_portNow, Bool.and_eq_true, Bool.not_eq_true',
    discards_eq_false, indicatesPress_eq_false, and_assoc]

theorem refreshSelected_iff {l : Bool} {now : Nat} {s : State} :
    refreshSelected l (portNow s now) s = true ↔
      s.cfg.swPresent = true ∧ OutsideWindow s now ∧
        (l = s.cfg.pressLevel ↔ s.isPressed = true) := by
  have hduplicate :
      s.indicatesPress l = s.isPressed ↔ (l = s.cfg.pressLevel ↔ s.isPressed = true) := by
    rw [Bool.eq_iff_iff, indicatesPress_eq_true]
  simp only [refreshSelected, ← truncW_eq_portNow, Bool.and_eq_true, Bool.not_eq_true',
    discards_eq_false, beq_iff_eq, hduplicate, and_assoc]

theorem exec_swDiscard_unless {now : Nat} {s : State}
    (h : ¬ (s.cfg.swPresent = true ∧ InsideWindow s now)) (l : Bool) :
    exec (.swDiscard l now) s = .next s := by
  rw [exec_swDiscard, if_neg (mt discardSelected_iff.mp h)]

theorem exec_swPress_unless {l : Bool} {now : Nat} {s : State}
    (h : ¬ (s.cfg.swPresent = true ∧ OutsideWindow s now ∧ l = s.cfg.pressLevel ∧
      s.isPressed = false)) : exec (.swPress l now) s = .next s := by
  rw [exec_swPress, if_neg (mt pressSelected_iff.mp h)]

theorem exec_swRelease_unless {l : Bool} {now : Nat} {s : State}
    (h : ¬ ((s.cfg.swPresent = true ∧ OutsideWindow s now ∧ l ≠ s.cfg.pressLevel ∧
      s.isPressed = true) ∧ ¬ IsLong s now)) : exec (.swRelease l now) s = .next s := by
  rw [← releaseSelected_iff, ← isLongPress_eq_false, truncW_eq_portNow, ← Bool.not_eq_true',
    ← Bool.and_eq_true] at h
  rw [exec_swRelease, if_neg h]

theorem exec_swLong_unless {l : Bool} {now : Nat} {s : State}
    (h : ¬ ((s.cfg.swPresent = true ∧ OutsideWindow s now ∧ l ≠ s.cfg.pressLevel ∧
      s.isPressed = true) ∧ IsLong s now)) : exec (.swLong l now) s = .next s := by
  rw [← releaseSelected_iff, ← isLongPress_eq_true, truncW_eq_portNow, ← Bool.and_eq_true] at h
  rw [exec_swLong, if_neg h]

theorem exec_swRefresh_unless {l : Bool} {now : Nat} {s : State}
    (h : ¬ (s.cfg.swPresent = true ∧ OutsideWindow s now ∧
      (l = s.cfg.pressLevel ↔ s.isPressed = true))) : exec (.swRefresh l now) s = .next s := by
  rw [exec_swRefresh, if_neg (mt refreshSelected_iff.mp h)]

/-- Every outcome but the discard is for a device with a switch and an edge outside the window. -/
theorem exec_swOutcome_unless_accepted {l : Bool} {now : Nat} {s : State}
    (h : ¬ (s.cfg.swPresent = true ∧ OutsideWindow s now)) {i : Instr} (hi : i ∈ swOutcomes l now)
    (hne : i ≠ .swDiscard l now) : exec i s = .next s := by
  simp only [swOutcomes, List.mem_cons, List.not_mem_nil, or_false] at hi
  rcases hi with rfl | rfl | rfl | rfl | rfl
  · exact absurd rfl hne
  · exact exec_swPress_unless fun ⟨hs, hout, _⟩ => h ⟨hs, hout⟩
  · exact exec_swRelease_unless fun ⟨⟨hs, hout, _⟩, _⟩ => h ⟨hs, hout⟩
  · exact exec_swLong_unless fun ⟨⟨hs, hout, _⟩, _⟩ => h ⟨hs, hout⟩
  · exact exec_swRefresh_unless fun ⟨hs, hout, _⟩ => h ⟨hs, hout⟩

theorem exec_swOutcome_of_no_switch {l : Bool} {now : Nat} {s : State} (h : s.cfg.swPresent = false)
    {i : Instr} (hi : i ∈ swOutcomes l now) : exec i s = .next s := by
  have hno : ¬ s.cfg.swPresent = true := by simp [h]
  by_cases hd : i = .swDiscard l now
  · rw [hd]
    exact exec_swDiscard_unless (fun ⟨hs, _⟩ => hno hs) l
  · exact exec_swOutcome_unless_accepted (fun ⟨hs, _⟩ => hno hs) hi hd

/-- Settles O27: in each clause one part of the condition of the cell or outcome fails. -/
theorem unselectedRowsChangeNothing : Obligations.UnselectedRowsChangeNothing := by
  intro s
  refine ⟨fun _ => exec_decodeCell_of_other_state, fun hd => ⟨?_, ?_, ?_⟩, exec_muxNone_unless,
    fun (hp : s.atomicReadPressed = true) => ?_,
    fun (hp : s.atomicReadPressed = false) => ⟨?_, ?_⟩, fun he => ?_, fun he => ?_,
    fun l now => ⟨fun hno _ => exec_swOutcome_of_no_switch hno, fun hin _ => ?_, fun hout => ?_,
      fun hl => ?_, fun hl => ⟨?_, ?_⟩, fun hlong => ?_, fun hshort => ?_, fun hl => ?_⟩⟩
  · exact exec_muxActive_unless fun ⟨hne, _⟩ => hne hd
  · exact exec_muxShifted_unless fun ⟨hne, _⟩ => hne hd
  · exact exec_muxSuppress_unless fun ⟨hne, _⟩ => hne hd
  · exact exec_muxActive_unless fun ⟨_, hreleased⟩ => by simp [hp] at hreleased
  · exact exec_muxShifted_unless fun ⟨_, hpressed, _⟩ => by simp [hp] at hpressed
  · exact exec_muxSuppress_unless fun ⟨_, hpressed, _⟩ => by simp [hp] at hpressed
  · exact exec_muxShifted_unless fun ⟨_, _, henabled⟩ => by simp [he] at henabled
  · exact exec_muxSuppress_unless fun ⟨_, _, hdisabled⟩ => by simp [he] at hdisabled
  · exact exec_swOutcome_unless_accepted fun ⟨_, hout⟩ => not_outsideWindow hin hout
  · exact exec_swDiscard_unless (fun ⟨_, hin⟩ => not_outsideWindow hin hout) l
  · exact exec_swPress_unless fun ⟨_, _, hedge⟩ => hl hedge
  · exact exec_swRelease_unless fun ⟨⟨_, _, hedge⟩, _⟩ => hl hedge
  · exact exec_swLong_unless fun ⟨⟨_, _, hedge⟩, _⟩ => hl hedge
  · exact exec_swRelease_unless fun ⟨_, hshort⟩ => hshort hlong
  · exact exec_swLong_unless fun ⟨_, hlong⟩ => hshort hlong
  · exact exec_swRefresh_unless fun ⟨_, _, hduplicate⟩ => hl hduplicate

end Sys2Proof.Machine
end
